-- ==== Sys2Proof/Word.lean ====
section
/-! DEFINITION. The words of the engine: 00_scope.md R7 (widths) and R9 (every value is unsigned, bit 0 is the
least significant). -/

namespace Sys2Proof

/-- A 32-bit register or command word (R7: BUFFER_BITS, R20). -/
abbrev Word := BitVec 32

/-- A byte-wide field, such as WIDTH_BYTES (R25). -/
abbrev Byte := BitVec 8

/-- A GPIO pin identifier, 0 to 255 (R7: PIN_ID_BITS, R55). -/
abbrev PinId := BitVec 8

/-- A hold in microseconds, 32 bits unsigned (R7: DELAY_BITS, R60). -/
abbrev Micros := BitVec 32

/-- A digital level: `false` is 0 and `true` is 1 (R57, R58). -/
abbrev Level := Bool

/-- `zext_32` of a level (R9). -/
def zextLevel (l : Level) : Word := if l then 1#32 else 0#32

end Sys2Proof
end

