-- ==== Sys2Proof/Config.lean ====
section
/-! DEFINITION. What an implementation fixes: the parameters of 00_scope.md R7, and the free value of the GPIO
environment (20_memory.md R59). An OPEN parameter is an opaque constant: no proof can see its value. -/

namespace Sys2Proof

/-- R7, R162: the one hybrid order the hardware admits. A type with one constructor: no other value can be
given (log 12). -/
inductive HybridOrder where
  | writeLatchRead
  deriving DecidableEq, Repr

namespace Config

/-- R7, R8: MAX_WIDTH_BYTES. -/
def maxWidthBytes : Nat := 4

/-- R7, R162: HYBRID_ORDER. -/
def hybridOrder : HybridOrder := .writeLatchRead

/-- R7: DEFAULT_CLOCK_EDGE_DELAY_US, OPEN (log 8). -/
opaque defaultClockEdgeDelayUs : Micros

/-- R7: DEFAULT_LATCH_PULSE_DELAY_US, OPEN (log 8). -/
opaque defaultLatchPulseDelayUs : Micros

/-- How many platform pins exist beyond pin 0; OPEN (R7). -/
opaque pinsBeyondZero : Nat

/-- R7: NUM_GPIO, OPEN; at least 1, because pin 0 is an ordinary platform pin (R55; DEDUCED, log 5). -/
def numGpio : Nat := pinsBeyondZero + 1

/-- Which 64-byte block of the host's address space holds the window; OPEN (R7). -/
opaque engineBlock : Nat

/-- R7, R51: ENGINE_BASE, OPEN, a multiple of 64 (log 2). -/
def engineBase : Nat := 64 * engineBlock

/-- FREE VALUE. R59, 92 D24: the level that the stream `env` of a GPIO environment's answers gives to the sample
numbered `draw`, of pin `pin`. It has no body, so no level can be proved of it. DESIGN CHOICE (log 7): it is a function
of these three arguments alone. Each engine instance has a stream of its own (`State.env`, R275), so nothing relates
the answers two instances get. -/
opaque gpioLevel (env draw : Nat) (pin : PinId) : Level

end Config

end Sys2Proof
end

