-- ==== Sys2Proof/Syntax.lean ====
section
/-! DEFINITION. The instructions: one constructor for each row of opcode_table.json. The CMD rows are the commands
of 30_encoding.md R81, the BUS rows the register accesses of 46_host_register_access.md (R80: the two formats). -/

namespace Sys2Proof

/-- One operation of the host on the engine. `v` is the 32-bit value written, `arg` FILL's 24-bit ARG (R83). -/
inductive Instr where
  /-- R200, OPC 0x01. -/
  | configure
  /-- R104, OPC 0x02. -/
  | clockPulse
  /-- R105, OPC 0x03. -/
  | latchPulse
  /-- R121, OPC 0x04. -/
  | write
  /-- R142, OPC 0x05. -/
  | read
  /-- R160, OPC 0x06. -/
  | readWrite
  /-- R205, OPC 0x07. -/
  | transfer
  /-- R180, OPC 0x08. -/
  | fill (arg : BitVec 24)
  /-- R220, offset 0x00. -/
  | rdCommand
  /-- R221, offset 0x00. -/
  | wrCommand (v : Word)
  /-- R222, offset 0x04. -/
  | rdStatus
  /-- R223, offset 0x04. -/
  | wrStatus (v : Word)
  /-- R224, offset 0x08. -/
  | rdMode
  /-- R225, offset 0x08. -/
  | wrMode (v : Word)
  /-- R226, offset 0x0C. -/
  | rdWidthBytes
  /-- R227, offset 0x0C. -/
  | wrWidthBytes (v : Word)
  /-- R228, offset 0x10. -/
  | rdClockPin
  /-- R229, offset 0x10. -/
  | wrClockPin (v : Word)
  /-- R230, offset 0x14. -/
  | rdDataInPin
  /-- R231, offset 0x14. -/
  | wrDataInPin (v : Word)
  /-- R232, offset 0x18. -/
  | rdDataOutPin
  /-- R233, offset 0x18. -/
  | wrDataOutPin (v : Word)
  /-- R234, offset 0x1C. -/
  | rdLatchPin
  /-- R235, offset 0x1C. -/
  | wrLatchPin (v : Word)
  /-- R236, offset 0x20. -/
  | rdClockEdgeDelay
  /-- R237, offset 0x20. -/
  | wrClockEdgeDelay (v : Word)
  /-- R238, offset 0x24. -/
  | rdLatchPulseDelay
  /-- R239, offset 0x24. -/
  | wrLatchPulseDelay (v : Word)
  /-- R240, offset 0x28. -/
  | rdInvertOutput
  /-- R241, offset 0x28. -/
  | wrInvertOutput (v : Word)
  /-- R242, offset 0x2C. -/
  | rdOutputBuffer
  /-- R243, offset 0x2C. -/
  | wrOutputBuffer (v : Word)
  /-- R244, offset 0x30. -/
  | rdInputBuffer
  /-- R245, offset 0x30. -/
  | wrInputBuffer (v : Word)
  /-- R246, offset 0x34. -/
  | rdReserved34
  /-- R247, offset 0x34. -/
  | wrReserved34 (v : Word)
  /-- R246, offset 0x38. -/
  | rdReserved38
  /-- R247, offset 0x38. -/
  | wrReserved38 (v : Word)
  /-- R246, offset 0x3C. -/
  | rdReserved3C
  /-- R247, offset 0x3C. -/
  | wrReserved3C (v : Word)
  deriving DecidableEq, Repr

end Sys2Proof
end

