-- ==== Sys2Proof/WellFormed.lean ====
section
/-! DEFINITION. Which instructions are spelled the way the decoder spells them. Every operand's type has exactly
the field's width, so the one check left is on WR COMMAND: a word that selects a command (30_encoding.md R81) is
written as that command's own constructor (log 4). -/

namespace Sys2Proof

/-- R81, R84: the word selects a command: OPC is FILL's, or OPC is one of the other seven and ARG is 0. -/
def legalCommandWord (w : Word) : Bool :=
  let opc := w.toNat % 256
  let arg := w.toNat / 256
  opc == 8 || (1 ≤ opc && opc ≤ 7 && arg == 0)

/-- The instruction is in the decoder's spelling. -/
def WellFormed (i : Instr) : Bool :=
  match i with
  | .wrCommand v => !legalCommandWord v
  | .configure => true
  | .clockPulse => true
  | .latchPulse => true
  | .write => true
  | .read => true
  | .readWrite => true
  | .transfer => true
  | .fill _ => true
  | .rdCommand => true
  | .rdStatus => true
  | .wrStatus _ => true
  | .rdMode => true
  | .wrMode _ => true
  | .rdWidthBytes => true
  | .wrWidthBytes _ => true
  | .rdClockPin => true
  | .wrClockPin _ => true
  | .rdDataInPin => true
  | .wrDataInPin _ => true
  | .rdDataOutPin => true
  | .wrDataOutPin _ => true
  | .rdLatchPin => true
  | .wrLatchPin _ => true
  | .rdClockEdgeDelay => true
  | .wrClockEdgeDelay _ => true
  | .rdLatchPulseDelay => true
  | .wrLatchPulseDelay _ => true
  | .rdInvertOutput => true
  | .wrInvertOutput _ => true
  | .rdOutputBuffer => true
  | .wrOutputBuffer _ => true
  | .rdInputBuffer => true
  | .wrInputBuffer _ => true
  | .rdReserved34 => true
  | .wrReserved34 _ => true
  | .rdReserved38 => true
  | .wrReserved38 _ => true
  | .rdReserved3C => true
  | .wrReserved3C _ => true

end Sys2Proof
end

