-- ==== Sys2Proof/Decode.lean ====
section
/-! DEFINITION. The bus transaction (30_encoding.md R80, BUS), the decoder of command words (R81, R84) and of
transactions (20_memory.md R51, R52), and the encoder. -/

namespace Sys2Proof

/-- R80: the direction `rw` of a host access. -/
inductive BusDir where
  | read
  | write
  deriving DecidableEq, Repr

/-- One host bus access as it is offered to the engine: its direction, its size in bytes, its byte offset from
ENGINE_BASE (R11, R51; log 2) and, for a write, the value. -/
structure Access where
  rw   : BusDir
  size : Nat
  off  : Nat
  data : Word
  deriving DecidableEq, Repr

/-- Why an access is no instruction of the engine. -/
inductive DecodeError where
  /-- R51: the offset lies outside the window, so the access does not reach the engine. -/
  | outsideWindow
  /-- R52: not a 32-bit access. -/
  | notWordAccess
  /-- R52: offset bits 1:0 are not 0. -/
  | misalignedAccess
  deriving DecidableEq, Repr

/-- R51: the window is 64 bytes long. -/
def windowBytes : Nat := 64

/-- R80: OPC, bits 7:0 of a command word. -/
def commandOpc (w : Word) : BitVec 8 := w.extractLsb' 0 8

/-- R80: ARG, bits 31:8 of a command word. -/
def commandArg (w : Word) : BitVec 24 := w.extractLsb' 8 24

/-- R80: the command word with the given OPC and ARG. -/
def commandWord (opc : BitVec 8) (arg : BitVec 24) : Word := arg ++ opc

/-- R81: the command a word selects. `none` for the illegal words of R84. -/
def decodeCommand (w : Word) : Option Instr :=
  if commandOpc w = 0x08#8 then some (.fill (commandArg w))
  else if commandArg w = 0#24 then
    match (commandOpc w).toNat with
    | 0x01 => some .configure
    | 0x02 => some .clockPulse
    | 0x03 => some .latchPulse
    | 0x04 => some .write
    | 0x05 => some .read
    | 0x06 => some .readWrite
    | 0x07 => some .transfer
    | _ => none
  else none

/-- R220 to R246: the read of word slot `slot` of the window (offset bits 5:2, R51). -/
def decodeRead (slot : Nat) : Option Instr :=
  match slot with
  | 0 => some .rdCommand
  | 1 => some .rdStatus
  | 2 => some .rdMode
  | 3 => some .rdWidthBytes
  | 4 => some .rdClockPin
  | 5 => some .rdDataInPin
  | 6 => some .rdDataOutPin
  | 7 => some .rdLatchPin
  | 8 => some .rdClockEdgeDelay
  | 9 => some .rdLatchPulseDelay
  | 10 => some .rdInvertOutput
  | 11 => some .rdOutputBuffer
  | 12 => some .rdInputBuffer
  | 13 => some .rdReserved34
  | 14 => some .rdReserved38
  | 15 => some .rdReserved3C
  | _ => none

/-- R221 to R247: the write of `v` to word slot `slot`. A write to COMMAND is the command its word selects, and
`wrCommand` for a word that selects none (DESIGN CHOICE, log 4). -/
def decodeWrite (slot : Nat) (v : Word) : Option Instr :=
  match slot with
  | 0 => some ((decodeCommand v).getD (.wrCommand v))
  | 1 => some (.wrStatus v)
  | 2 => some (.wrMode v)
  | 3 => some (.wrWidthBytes v)
  | 4 => some (.wrClockPin v)
  | 5 => some (.wrDataInPin v)
  | 6 => some (.wrDataOutPin v)
  | 7 => some (.wrLatchPin v)
  | 8 => some (.wrClockEdgeDelay v)
  | 9 => some (.wrLatchPulseDelay v)
  | 10 => some (.wrInvertOutput v)
  | 11 => some (.wrOutputBuffer v)
  | 12 => some (.wrInputBuffer v)
  | 13 => some (.wrReserved34 v)
  | 14 => some (.wrReserved38 v)
  | 15 => some (.wrReserved3C v)
  | _ => none

/-- The operation a bus access asks of the engine, or the reason it asks none (R51, R52). -/
def decode (a : Access) : Except DecodeError Instr :=
  if windowBytes ≤ a.off then .error .outsideWindow
  else if a.size ≠ 4 then .error .notWordAccess
  else if a.off % 4 ≠ 0 then .error .misalignedAccess
  else
    match (match a.rw with
      | .read => decodeRead (a.off / 4)
      | .write => decodeWrite (a.off / 4) a.data) with
    | some i => .ok i
    | none => .error .outsideWindow

/-- R11: BusRead(off). -/
def busRead (off : Nat) : Access := ⟨.read, 4, off, 0#32⟩

/-- R11: BusWrite(off, v). -/
def busWrite (off : Nat) (v : Word) : Access := ⟨.write, 4, off, v⟩

/-- R11, R51: an access at the host address `addr`, seen from a window at `base`. `none` where the address lies
outside the window: the access does not reach the engine. DESIGN CHOICE (log 2): an access is judged by its first
address alone, so one that starts below `base` and runs into the window is outside; R51 and R52 do not say. -/
def accessAt (base addr : Nat) (rw : BusDir) (size : Nat) (v : Word) : Option Access :=
  if base ≤ addr ∧ addr < base + windowBytes then some ⟨rw, size, addr - base, v⟩ else none

/-- The access that asks for `i` (R81's words, R20's offsets). -/
def encode (i : Instr) : Access :=
  match i with
  | .configure => busWrite 0x00 (commandWord 0x01 0)
  | .clockPulse => busWrite 0x00 (commandWord 0x02 0)
  | .latchPulse => busWrite 0x00 (commandWord 0x03 0)
  | .write => busWrite 0x00 (commandWord 0x04 0)
  | .read => busWrite 0x00 (commandWord 0x05 0)
  | .readWrite => busWrite 0x00 (commandWord 0x06 0)
  | .transfer => busWrite 0x00 (commandWord 0x07 0)
  | .fill arg => busWrite 0x00 (commandWord 0x08 arg)
  | .rdCommand => busRead 0x00
  | .wrCommand v => busWrite 0x00 v
  | .rdStatus => busRead 0x04
  | .wrStatus v => busWrite 0x04 v
  | .rdMode => busRead 0x08
  | .wrMode v => busWrite 0x08 v
  | .rdWidthBytes => busRead 0x0C
  | .wrWidthBytes v => busWrite 0x0C v
  | .rdClockPin => busRead 0x10
  | .wrClockPin v => busWrite 0x10 v
  | .rdDataInPin => busRead 0x14
  | .wrDataInPin v => busWrite 0x14 v
  | .rdDataOutPin => busRead 0x18
  | .wrDataOutPin v => busWrite 0x18 v
  | .rdLatchPin => busRead 0x1C
  | .wrLatchPin v => busWrite 0x1C v
  | .rdClockEdgeDelay => busRead 0x20
  | .wrClockEdgeDelay v => busWrite 0x20 v
  | .rdLatchPulseDelay => busRead 0x24
  | .wrLatchPulseDelay v => busWrite 0x24 v
  | .rdInvertOutput => busRead 0x28
  | .wrInvertOutput v => busWrite 0x28 v
  | .rdOutputBuffer => busRead 0x2C
  | .wrOutputBuffer v => busWrite 0x2C v
  | .rdInputBuffer => busRead 0x30
  | .wrInputBuffer v => busWrite 0x30 v
  | .rdReserved34 => busRead 0x34
  | .wrReserved34 v => busWrite 0x34 v
  | .rdReserved38 => busRead 0x38
  | .wrReserved38 v => busWrite 0x38 v
  | .rdReserved3C => busRead 0x3C
  | .wrReserved3C v => busWrite 0x3C v

/-- The access an opcode-table row numbers. A CMD row has 32 bits, the word written to COMMAND. A BUS row's bits 5:0
are the offset; the table gives `rw` and the data no bits, and the model numbers them bit 6 (1 is a write) and
bits 39:8 (DESIGN CHOICE, log 3). -/
def tableAccess (nbits w : Nat) : Access :=
  let bits := w % 2 ^ nbits
  if nbits = 32 then busWrite 0x00 (BitVec.ofNat 32 bits)
  else if bits / 64 % 2 = 1 then busWrite (bits % 64) (BitVec.ofNat 32 (bits / 256))
  else busRead (bits % 64)

/-- The instruction the decoder reads from the bits `w` of a row of `nbits` bits. -/
def decodeTableWord (nbits w : Nat) : Option Instr :=
  match decode (tableAccess nbits w) with
  | .ok i => some i
  | .error _ => none

end Sys2Proof
end

