-- ==== Sys2Proof/Machine/State.lean ====
section
/-! DEFINITION. The state: the engine's registers (10_state.md R20), and what the host and the GPIO environment
have given and received (00_scope.md R6, R14). -/

namespace Sys2Proof.Machine

/-- R24: the three transfer modes. MODE never holds 3, so there is no fourth (log 14). -/
inductive Mode where
  | writeOnly
  | readOnly
  | readWrite
  deriving DecidableEq, Repr

/-- R260: the result codes. Codes 5 to 15 are never produced, so there are no others (log 14). -/
inductive ErrCode where
  | ok
  | widthExceedsMax
  | notConfigured
  | alreadyConfigured
  | illegalCommand
  deriving DecidableEq, Repr

/-- R56: a pin's direction. -/
inductive PinDir where
  | input
  | output
  deriving DecidableEq, Repr

/-- R12: one GPIO event of a trace. -/
inductive Event where
  /-- R56: `DIR(p,d)`. -/
  | setDir (p : PinId) (d : PinDir)
  /-- R57: `D(p,l)`. -/
  | drive (p : PinId) (l : Level)
  /-- R58: `S(p)=l`. -/
  | sample (p : PinId) (l : Level)
  /-- R60: `H(d)`. -/
  | hold (d : Micros)
  deriving DecidableEq, Repr

/-- What reaches the engine from outside, one at a time (R50, R21). -/
inductive Input where
  /-- A host access (R50). -/
  | access (a : Access)
  /-- Power-on reset (R21, R300; log 10). -/
  | powerOn
  deriving DecidableEq, Repr

structure State where
  /-- STATUS.CONFIGURED (R21, R23). -/
  configured : Bool
  /-- STATUS.ERR_CODE (R23, R260). -/
  errCode : ErrCode
  /-- MODE (R24). -/
  mode : Mode
  /-- WIDTH_BYTES (R25). -/
  widthBytes : Byte
  /-- CLOCK_PIN (R26). -/
  clockPin : PinId
  /-- DATA_IN_PIN (R27). -/
  dataInPin : PinId
  /-- DATA_OUT_PIN (R28). -/
  dataOutPin : PinId
  /-- LATCH_PIN (R29). -/
  latchPin : PinId
  /-- CLOCK_EDGE_DELAY (R30). -/
  clockEdgeDelay : Micros
  /-- LATCH_PULSE_DELAY (R31). -/
  latchPulseDelay : Micros
  /-- INVERT_OUTPUT bit 0 (R32). -/
  invertOutput : Bool
  /-- OUTPUT_BUFFER (R33). -/
  outputBuffer : Word
  /-- INPUT_BUFFER (R34). -/
  inputBuffer : Word
  /-- The parameter NUM_GPIO of the platform (R7, R55); no step writes it (log 5). -/
  numGpio : Nat
  /-- The GPIO events issued since power-on, oldest first (R12, R14; log 9). -/
  trace : List Event
  /-- The levels the GPIO environment answers to the coming samples, first one first (R59; log 7). -/
  samples : List Level
  /-- How many samples the free value `Config.gpioLevel` has answered (R59; log 7). -/
  draws : Nat
  /-- Which stream of free answers this engine's GPIO environment gives (R59, R275; log 7). The model's own field: the
  engine has no identifier (R275), and no instruction reads or writes it. -/
  env : Nat
  /-- The accesses the host has still to issue, and power-on resets, in order (R38, R50; log 1). -/
  inputs : List Input
  /-- The values the host's reads returned, oldest first (R14; log 9). -/
  reads : List Word
  deriving DecidableEq, Repr

/-- No behaviour of the engine stops it: every command ends and no state keeps it from taking the next (93, after
item 23; R268). There is no fault. -/
inductive Fault where
  deriving DecidableEq, Repr

/-- Where the model gives no meaning, each time because the spec asks a model to refuse. -/
inductive Refusal where
  /-- An instruction with no meaning yet; raised by `exec` alone. Safe. -/
  | notModelled (mnemonic : String)
  /-- R52: an access that is not 32 bits wide; raised by `step`. Safe: the model stops where nothing is stated. -/
  | notWordAccess (size : Nat)
  /-- R52: an access whose offset bits 1:0 are not 0; raised by `step`. Safe, as above. -/
  | misalignedAccess (off : Nat)
  /-- R55: a command would issue an event on a pin at or above NUM_GPIO; raised by `commit`. Safe, as above. -/
  | noSuchPin (p : PinId)
  /-- R275: two configured instances share a pin; raised by `systemStep` alone. Safe, as above. -/
  | sharedPins
  deriving DecidableEq, Repr

/-- R300: the engine after power-on reset, with no access issued yet (logs 1, 5, 7, 8, 9). -/
def State.reset : State where
  configured := false
  errCode := .ok
  mode := .writeOnly
  widthBytes := 0
  clockPin := 0
  dataInPin := 0
  dataOutPin := 0
  latchPin := 0
  clockEdgeDelay := Config.defaultClockEdgeDelayUs
  latchPulseDelay := Config.defaultLatchPulseDelayUs
  invertOutput := false
  outputBuffer := 0
  inputBuffer := 0
  numGpio := Config.numGpio
  trace := []
  samples := []
  draws := 0
  env := 0
  inputs := []
  reads := []

end Sys2Proof.Machine
end

