-- ==== Sys2Proof/Machine/Flags.lean ====
section
/-! DEFINITION. STATUS, the engine's only flags (10_state.md R23, R39; 60_exceptions.md R260). -/

namespace Sys2Proof.Machine

/-- R260: the code of a result. -/
def errBits (e : ErrCode) : BitVec 4 :=
  match e with
  | .ok => 0
  | .widthExceedsMax => 1
  | .notConfigured => 2
  | .alreadyConfigured => 3
  | .illegalCommand => 4

/-- R222: STATUS as a read returns it. -/
def statusWord (s : State) : Word :=
  0#24 ++ errBits s.errCode ++ 0#3 ++ BitVec.ofBool s.configured

end Sys2Proof.Machine
end

