-- ==== Sys2Proof/Machine/Operands.lean ====
section
/-! DEFINITION. What a command or an access reads as an operand: fields of a written word, the bit width, the fill
bit, which pins exist, and the level and direction a trace last asked of a line. -/

namespace Sys2Proof.Machine

/-- R7, R25: W, the chain width in bits. -/
def bitWidth (s : State) : Nat := 8 * s.widthBytes.toNat

/-- R24: the mode bits of MODE, as a read returns them. -/
def modeBits (m : Mode) : BitVec 2 :=
  match m with
  | .writeOnly => 0
  | .readOnly => 1
  | .readWrite => 2

/-- R24, R225: the mode that bits 1:0 of a written word name; `none` for 3. -/
def modeOf (v : Word) : Option Mode :=
  match v.toNat % 4 with
  | 0 => some .writeOnly
  | 1 => some .readOnly
  | 2 => some .readWrite
  | _ => none

/-- R25 to R29: bits 7:0 of a written word. -/
def lowByte (v : Word) : Byte := v.extractLsb' 0 8

/-- R32, R241: bit 0 of a written word. -/
def lowBit (v : Word) : Bool := v.getLsbD 0

/-- R83: FILL's bit, `zext_32(ARG) != 0`. -/
def fillBit (arg : BitVec 24) : Level := arg.setWidth 32 != 0#32

/-- R33, R120: bit `i` of a 32-bit value. -/
def valueBit (v : Word) (i : Nat) : Level := v.getLsbD i

/-- R140: a word shifted left by one with a level entering at bit 0. -/
def shiftLevelIn (w : Word) (l : Level) : Word := (w <<< 1) ||| zextLevel l

/-- R55: pin `p` exists on a platform of `n` pins, that is `p < n` (`pinExists_iff`). Written as a subtraction so
that it computes for pin 0 whatever NUM_GPIO is. -/
def pinExists (n : Nat) (p : PinId) : Bool := n - p.toNat != 0

/-- The pin an event names, if it names one (R60: a hold touches none). -/
def eventPin (e : Event) : Option PinId :=
  match e with
  | .setDir p _ => some p
  | .drive p _ => some p
  | .sample p _ => some p
  | .hold _ => none

/-- R55: the pin the event names exists. -/
def eventPinExists (n : Nat) (e : Event) : Bool :=
  match eventPin e with
  | some p => pinExists n p
  | none => true

/-- What one event asks of line `p`'s level, given the level asked before it. -/
def lineAfter (p : PinId) (l : Option Level) (e : Event) : Option Level :=
  match e with
  | .drive q m => if q = p then some m else l
  | .setDir _ _ | .sample _ _ | .hold _ => l

/-- R319: the level the last drive on line `p` of a trace set; `none` if the trace drives it nowhere (log 18). -/
def lineLevel (p : PinId) (es : List Event) : Option Level := es.foldl (lineAfter p) none

/-- What one event asks of line `p`'s direction, given the direction asked before it. -/
def dirAfter (p : PinId) (d : Option PinDir) (e : Event) : Option PinDir :=
  match e with
  | .setDir q m => if q = p then some m else d
  | .drive _ _ | .sample _ _ | .hold _ => d

/-- R302: the direction the last set-direction on pin `p` of a trace asked for (log 18). -/
def lineDir (p : PinId) (es : List Event) : Option PinDir := es.foldl (dirAfter p) none

end Sys2Proof.Machine
end

