-- ==== Sys2Proof/Machine/Ops.lean ====
section
/-! DEFINITION. The shared operations: the primitives of bit_bang_gpio_controller (20_memory.md R56 to R60), the
pulse generators (40_pulse_primitives.md R100 to R103), the two shift datapaths (41 R120, 42 R140), the transfers
(45 R205), error reporting (60 R262), and taking an input. -/

namespace Sys2Proof.Machine

/-- What an operation answers. -/
abbrev Result := Host.Outcome State Fault Refusal

/-! ### bit_bang_gpio_controller -/

/-- Events reach the GPIO environment in the order they are issued (R61). -/
def State.emit (s : State) (es : List Event) : State := { s with trace := s.trace ++ es }

/-- R56. -/
def gpioSetDir (p : PinId) (d : PinDir) (s : State) : State := s.emit [.setDir p d]

/-- R57. -/
def gpioDrive (p : PinId) (l : Level) (s : State) : State := s.emit [.drive p l]

/-- R60. -/
def hold (d : Micros) (s : State) : State := s.emit [.hold d]

/-- R58, R59: the level the environment answers to a sample of `p` now (log 7). -/
def nextLevel (p : PinId) (s : State) : Level :=
  match s.samples with
  | l :: _ => l
  | [] => Config.gpioLevel s.env s.draws p

/-- The environment's answer is used up: the next sample gets the next one. -/
def State.takeLevel (s : State) : State :=
  match s.samples with
  | _ :: rest => { s with samples := rest }
  | [] => { s with draws := s.draws + 1 }

/-- The free answers come from the stream `k` (log 7). -/
def State.withEnv (s : State) (k : Nat) : State := { s with env := k }

/-- R58: the level read and the state after the event. -/
def gpioSample (p : PinId) (s : State) : Level × State :=
  (nextLevel p s, s.takeLevel.emit [.sample p (nextLevel p s)])

/-! ### clock_pulse_generator and latch_pulse_generator -/

/-- R100. -/
def clockPulse (s : State) : State :=
  hold s.clockEdgeDelay (gpioDrive s.clockPin false (hold s.clockEdgeDelay (gpioDrive s.clockPin true s)))

/-- R102. -/
def latchRaise (s : State) : State := gpioDrive s.latchPin true s

/-- R103. -/
def latchLower (s : State) : State := gpioDrive s.latchPin false s

/-- R101. -/
def latchPulse (s : State) : State := latchLower (hold s.latchPulseDelay (latchRaise s))

/-! ### serial_shift_out_datapath -/

/-- R120, R180: for `i` from `n-1` down to 0, drive data-out with `bit i`, inverted if INVERT_OUTPUT, and pulse the
clock. -/
def shiftBits (bit : Nat → Level) : Nat → State → State
  | 0, s => s
  | i + 1, s => shiftBits bit i (clockPulse (gpioDrive s.dataOutPin (bit i ^^ s.invertOutput) s))

/-- R120: ShiftOut. -/
def shiftOut (value : Word) (s : State) : State := shiftBits (valueBit value) (bitWidth s) s

/-! ### serial_shift_in_datapath -/

/-- R140, R34: INPUT_BUFFER takes a value. -/
def State.setInput (s : State) (w : Word) : State := { s with inputBuffer := w }

/-- R140: one bit position: sample, shift the level into INPUT_BUFFER, pulse the clock. -/
def shiftInBit (s : State) : State :=
  let (l, t) := gpioSample s.dataInPin s
  clockPulse (t.setInput (shiftLevelIn t.inputBuffer l))

/-- R140: `n` bit positions. -/
def shiftInLoop : Nat → State → State
  | 0, s => s
  | n + 1, s => shiftInLoop n (shiftInBit s)

/-- R140: ShiftIn. -/
def shiftIn (s : State) : State := shiftInLoop (bitWidth s) (s.setInput 0#32)

/-! ### Transfers -/

/-- R121: the events of a write transfer. -/
def writeTransfer (s : State) : State := latchPulse (shiftOut s.outputBuffer s)

/-- R142: the events of a read transfer. -/
def readTransfer (s : State) : State := latchLower (shiftIn (latchRaise s))

/-- R160 to R162: the hybrid transfer, in the one order admitted (log 12). -/
def hybridTransfer (s : State) : State :=
  match Config.hybridOrder with
  | .writeLatchRead => latchLower (shiftIn (latchRaise (shiftOut s.outputBuffer s)))

/-- R205: TransferByMode. -/
def transferByMode (s : State) : State :=
  match s.mode with
  | .writeOnly => writeTransfer s
  | .readOnly => readTransfer s
  | .readWrite => hybridTransfer s

/-- R180: FILL's loop and latch pulse. -/
def fillTransfer (bit : Level) (s : State) : State := latchPulse (shiftBits (fun _ => bit) (bitWidth s) s)

/-! ### Construction -/

/-- R200: a step of the set-up, skipped for a pin that is not wired (R13). -/
def ifWired (p : PinId) (f : State → State) (s : State) : State := if p = 0#8 then s else f s

/-- R200, R202, R203: directions of the non-zero pins: clock, data-in, data-out, latch. -/
def setUpDirections (s : State) : State :=
  ifWired s.latchPin (gpioSetDir s.latchPin .output)
    (ifWired s.dataOutPin (gpioSetDir s.dataOutPin .output)
      (ifWired s.dataInPin (gpioSetDir s.dataInPin .input)
        (ifWired s.clockPin (gpioSetDir s.clockPin .output) s)))

/-- R200, R202, R203: the non-zero output pins driven low: clock, data-out, latch. -/
def driveOutputsLow (s : State) : State :=
  ifWired s.latchPin (gpioDrive s.latchPin false)
    (ifWired s.dataOutPin (gpioDrive s.dataOutPin false)
      (ifWired s.clockPin (gpioDrive s.clockPin false) s))

/-- R200, R21: STATUS.CONFIGURED set. -/
def State.markConfigured (s : State) : State := { s with configured := true }

/-- R200: CONFIGURE's work once its checks have passed. -/
def construct (s : State) : State :=
  transferByMode ((driveOutputsLow (setUpDirections s)).markConfigured.setInput 0#32)

/-! ### Results and errors -/

/-- R23, R260: STATUS.ERR_CODE takes a code. -/
def State.setErr (s : State) (e : ErrCode) : State := { s with errCode := e }

/-- R262: `raise CommandError(code)`: the code is written and the command ends; nothing else changes. -/
def raiseError (e : ErrCode) (s : State) : Result := .next (s.setErr e)

/-- The events `t` has beyond those of `s`. -/
def issued (s t : State) : List Event := t.trace.drop s.trace.length

/-- The end of a command that was in state `s` and did the work `f`: ERR_CODE 0, unless one of its events names a
pin the platform does not have (R55: then the whole command is refused; log 6). -/
def commit (s : State) (f : State → State) : Result :=
  match (issued s (f s)).find? (fun e => !eventPinExists s.numGpio e) with
  | some e => .refused (.noSuchPin ((eventPin e).getD 0#8))
  | none => .next ((f s).setErr .ok)

/-- R82: a command other than CONFIGURE runs only while CONFIGURED. -/
def runConfigured (f : State → State) (s : State) : Result :=
  if s.configured then commit s f else raiseError .notConfigured s

/-- R82, R200, R201, R263: CONFIGURE's checks, then its work. -/
def runConfigure (s : State) : Result :=
  if s.configured then raiseError .alreadyConfigured s
  else if Config.maxWidthBytes < s.widthBytes.toNat then raiseError .widthExceedsMax s
  else commit s construct

/-! ### Register accesses -/

/-- R53: a host read returns `v` and has no other effect. -/
def State.answerRead (s : State) (v : Word) : State := { s with reads := s.reads ++ [v] }

/-- R53: a host read of a register whose value is `v`. -/
def readRegister (v : Word) (s : State) : Result := .next (s.answerRead v)

/-- R24 to R29: a write to a register that is locked while CONFIGURED. -/
def writeLocked (f : State → State) (s : State) : Result := .next (if s.configured then s else f s)

/-- R30 to R34: a write to a register writable in both lifecycle states. -/
def writeAlways (f : State → State) (s : State) : Result := .next (f s)

/-- R23, R35: a write the register ignores. -/
def writeIgnored (s : State) : Result := .next s

/-! ### Inputs -/

/-- The head of `inputs` is taken. -/
def State.dropInput (s : State) : State := { s with inputs := s.inputs.tail }

/-- R50: the next input, in order; `none` where the outside offers none. -/
def nextInput (s : State) : Option Input := s.inputs.head?

/-- R21, R300: power-on reset. Every register takes its power-on value and no event is issued; what belongs to the
host, the platform and the environment stays (log 10). -/
def powerOnReset (s : State) : State :=
  { State.reset with
    numGpio := s.numGpio, samples := s.samples, draws := s.draws, env := s.env, inputs := s.inputs, reads := s.reads }

/-- R51, R52: the answer to an access that is no instruction. -/
def rejectAccess (a : Access) (e : DecodeError) (s : State) : Result :=
  match e with
  | .outsideWindow => .next s
  | .notWordAccess => .refused (.notWordAccess a.size)
  | .misalignedAccess => .refused (.misalignedAccess a.off)

/-- `s` with the access of an opcode-table row offered next. -/
def offerTableWord (s : State) (nbits w : Nat) : State :=
  { s with inputs := .access (tableAccess nbits w) :: s.inputs }

/-- R11: `MemRead(addr, 4)` and `MemWrite(addr, 4, v)` by a host, at an address of its own space: offered next if the
address lies in the window of this engine (R51; log 2). -/
def offerAt (base addr : Nat) (rw : BusDir) (size : Nat) (v : Word) (s : State) : State :=
  match accessAt base addr rw size v with
  | some a => { s with inputs := .access a :: s.inputs }
  | none => s

end Sys2Proof.Machine
end

