-- ==== Sys2Proof/Machine/Construction.lean ====
section
/-! DEFINITION. CONFIGURE (45_construction_and_transfer.md R200 to R204, R207). -/

namespace Sys2Proof.Machine

/-- R200. -/
def execConfigure (s : State) : Result := runConfigure s

end Sys2Proof.Machine
end

