-- ==== Sys2Proof/Machine/Pulse.lean ====
section
/-! DEFINITION. The pulse commands (40_pulse_primitives.md). -/

namespace Sys2Proof.Machine

/-- R104. -/
def execClockPulse (s : State) : Result := runConfigured clockPulse s

/-- R105. -/
def execLatchPulse (s : State) : Result := runConfigured latchPulse s

end Sys2Proof.Machine
end

