-- ==== Sys2Proof/Machine/Transfers.lean ====
section
/-! DEFINITION. The transfers: WRITE (41_serial_out.md), READ (42_serial_in.md), READ_WRITE (43_hybrid.md), FILL
(44_fill.md) and TRANSFER (45_construction_and_transfer.md). -/

namespace Sys2Proof.Machine

/-- R121. -/
def execWrite (s : State) : Result := runConfigured writeTransfer s

/-- R142. -/
def execRead (s : State) : Result := runConfigured readTransfer s

/-- R160. -/
def execReadWrite (s : State) : Result := runConfigured hybridTransfer s

/-- R205. -/
def execTransfer (s : State) : Result := runConfigured transferByMode s

/-- R180. -/
def execFill (arg : BitVec 24) (s : State) : Result := runConfigured (fillTransfer (fillBit arg)) s

end Sys2Proof.Machine
end

