-- ==== Sys2Proof/Machine/HostAccess.lean ====
section
/-! DEFINITION. Host register access (46_host_register_access.md): a read and a write of each register. -/

namespace Sys2Proof.Machine

/-- R82, R81, R84: the steps of a write of the command word `v` to COMMAND: an illegal OPC, then a non-zero ARG
where OPC is not FILL's, then the row's own rule, whose first check is the lifecycle. -/
def runCommandWord (v : Word) (s : State) : Result :=
  let opc := (commandOpc v).toNat
  let arg := commandArg v
  if opc < 0x01 ∨ 0x08 < opc then raiseError .illegalCommand s
  else if opc ≠ 0x08 ∧ arg ≠ 0#24 then raiseError .illegalCommand s
  else
    match opc with
    | 0x01 => execConfigure s
    | 0x02 => execClockPulse s
    | 0x03 => execLatchPulse s
    | 0x04 => execWrite s
    | 0x05 => execRead s
    | 0x06 => execReadWrite s
    | 0x07 => execTransfer s
    | 0x08 => execFill arg s
    | _ => raiseError .illegalCommand s

/-- R220. -/
def execRdCommand (s : State) : Result := readRegister 0#32 s

/-- R221. -/
def execWrCommand (v : Word) (s : State) : Result := runCommandWord v s

/-- R222. -/
def execRdStatus (s : State) : Result := readRegister (statusWord s) s

/-- R223: the value written is ignored. -/
def execWrStatus (_v : Word) (s : State) : Result := writeIgnored s

/-- R224. -/
def execRdMode (s : State) : Result := readRegister ((modeBits s.mode).setWidth 32) s

/-- R225: bits 1:0 of 3 leave MODE unchanged. -/
def execWrMode (v : Word) (s : State) : Result :=
  writeLocked (fun t => { t with mode := (modeOf v).getD t.mode }) s

/-- R226. -/
def execRdWidthBytes (s : State) : Result := readRegister (s.widthBytes.setWidth 32) s

/-- R227. -/
def execWrWidthBytes (v : Word) (s : State) : Result :=
  writeLocked (fun t => { t with widthBytes := lowByte v }) s

/-- R228. -/
def execRdClockPin (s : State) : Result := readRegister (s.clockPin.setWidth 32) s

/-- R229. -/
def execWrClockPin (v : Word) (s : State) : Result :=
  writeLocked (fun t => { t with clockPin := lowByte v }) s

/-- R230. -/
def execRdDataInPin (s : State) : Result := readRegister (s.dataInPin.setWidth 32) s

/-- R231. -/
def execWrDataInPin (v : Word) (s : State) : Result :=
  writeLocked (fun t => { t with dataInPin := lowByte v }) s

/-- R232. -/
def execRdDataOutPin (s : State) : Result := readRegister (s.dataOutPin.setWidth 32) s

/-- R233. -/
def execWrDataOutPin (v : Word) (s : State) : Result :=
  writeLocked (fun t => { t with dataOutPin := lowByte v }) s

/-- R234. -/
def execRdLatchPin (s : State) : Result := readRegister (s.latchPin.setWidth 32) s

/-- R235. -/
def execWrLatchPin (v : Word) (s : State) : Result :=
  writeLocked (fun t => { t with latchPin := lowByte v }) s

/-- R236. -/
def execRdClockEdgeDelay (s : State) : Result := readRegister s.clockEdgeDelay s

/-- R237. -/
def execWrClockEdgeDelay (v : Word) (s : State) : Result :=
  writeAlways (fun t => { t with clockEdgeDelay := v }) s

/-- R238. -/
def execRdLatchPulseDelay (s : State) : Result := readRegister s.latchPulseDelay s

/-- R239. -/
def execWrLatchPulseDelay (v : Word) (s : State) : Result :=
  writeAlways (fun t => { t with latchPulseDelay := v }) s

/-- R240. -/
def execRdInvertOutput (s : State) : Result := readRegister (zextLevel s.invertOutput) s

/-- R241. -/
def execWrInvertOutput (v : Word) (s : State) : Result :=
  writeAlways (fun t => { t with invertOutput := lowBit v }) s

/-- R242. -/
def execRdOutputBuffer (s : State) : Result := readRegister s.outputBuffer s

/-- R243. -/
def execWrOutputBuffer (v : Word) (s : State) : Result :=
  writeAlways (fun t => { t with outputBuffer := v }) s

/-- R244. -/
def execRdInputBuffer (s : State) : Result := readRegister s.inputBuffer s

/-- R245. -/
def execWrInputBuffer (v : Word) (s : State) : Result :=
  writeAlways (fun t => { t with inputBuffer := v }) s

/-- R246. -/
def execRdReserved34 (s : State) : Result := readRegister 0#32 s

/-- R247: the value written is ignored. -/
def execWrReserved34 (_v : Word) (s : State) : Result := writeIgnored s

/-- R246. -/
def execRdReserved38 (s : State) : Result := readRegister 0#32 s

/-- R247: the value written is ignored. -/
def execWrReserved38 (_v : Word) (s : State) : Result := writeIgnored s

/-- R246. -/
def execRdReserved3C (s : State) : Result := readRegister 0#32 s

/-- R247: the value written is ignored. -/
def execWrReserved3C (_v : Word) (s : State) : Result := writeIgnored s

end Sys2Proof.Machine
end

