-- ==== Sys2Proof/Machine/Dispatch.lean ====
section
/-! DEFINITION. One arm for each constructor of Instr. -/

namespace Sys2Proof.Machine

def exec (i : Instr) (s : State) : Host.Outcome State Fault Refusal :=
  match i with
  | .configure => Sys2Proof.Machine.execConfigure s
  | .clockPulse => Sys2Proof.Machine.execClockPulse s
  | .latchPulse => Sys2Proof.Machine.execLatchPulse s
  | .write => Sys2Proof.Machine.execWrite s
  | .read => Sys2Proof.Machine.execRead s
  | .readWrite => Sys2Proof.Machine.execReadWrite s
  | .transfer => Sys2Proof.Machine.execTransfer s
  | .fill arg => Sys2Proof.Machine.execFill arg s
  | .rdCommand => Sys2Proof.Machine.execRdCommand s
  | .wrCommand v => Sys2Proof.Machine.execWrCommand v s
  | .rdStatus => Sys2Proof.Machine.execRdStatus s
  | .wrStatus v => Sys2Proof.Machine.execWrStatus v s
  | .rdMode => Sys2Proof.Machine.execRdMode s
  | .wrMode v => Sys2Proof.Machine.execWrMode v s
  | .rdWidthBytes => Sys2Proof.Machine.execRdWidthBytes s
  | .wrWidthBytes v => Sys2Proof.Machine.execWrWidthBytes v s
  | .rdClockPin => Sys2Proof.Machine.execRdClockPin s
  | .wrClockPin v => Sys2Proof.Machine.execWrClockPin v s
  | .rdDataInPin => Sys2Proof.Machine.execRdDataInPin s
  | .wrDataInPin v => Sys2Proof.Machine.execWrDataInPin v s
  | .rdDataOutPin => Sys2Proof.Machine.execRdDataOutPin s
  | .wrDataOutPin v => Sys2Proof.Machine.execWrDataOutPin v s
  | .rdLatchPin => Sys2Proof.Machine.execRdLatchPin s
  | .wrLatchPin v => Sys2Proof.Machine.execWrLatchPin v s
  | .rdClockEdgeDelay => Sys2Proof.Machine.execRdClockEdgeDelay s
  | .wrClockEdgeDelay v => Sys2Proof.Machine.execWrClockEdgeDelay v s
  | .rdLatchPulseDelay => Sys2Proof.Machine.execRdLatchPulseDelay s
  | .wrLatchPulseDelay v => Sys2Proof.Machine.execWrLatchPulseDelay v s
  | .rdInvertOutput => Sys2Proof.Machine.execRdInvertOutput s
  | .wrInvertOutput v => Sys2Proof.Machine.execWrInvertOutput v s
  | .rdOutputBuffer => Sys2Proof.Machine.execRdOutputBuffer s
  | .wrOutputBuffer v => Sys2Proof.Machine.execWrOutputBuffer v s
  | .rdInputBuffer => Sys2Proof.Machine.execRdInputBuffer s
  | .wrInputBuffer v => Sys2Proof.Machine.execWrInputBuffer v s
  | .rdReserved34 => Sys2Proof.Machine.execRdReserved34 s
  | .wrReserved34 v => Sys2Proof.Machine.execWrReserved34 v s
  | .rdReserved38 => Sys2Proof.Machine.execRdReserved38 s
  | .wrReserved38 v => Sys2Proof.Machine.execWrReserved38 v s
  | .rdReserved3C => Sys2Proof.Machine.execRdReserved3C s
  | .wrReserved3C v => Sys2Proof.Machine.execWrReserved3C v s

end Sys2Proof.Machine
end

