-- ==== Sys2Proof/Machine/Step.lean ====
section
/-! DEFINITION. One step: the engine takes the next input (20_memory.md R50, R61). -/

namespace Sys2Proof.Machine

/-- With no input left the engine idles and keeps its state (R277; log 1). A power-on reset resets it (R300). A host
access runs the instruction it decodes to, or is rejected by name (R51, R52). -/
def step (s : State) : Host.Outcome State Fault Refusal :=
  match nextInput s with
  | none => .next s
  | some .powerOn => .next (powerOnReset s.dropInput)
  | some (.access a) =>
    match decode a with
    | .ok i => exec i s.dropInput
    | .error e => rejectAccess a e s.dropInput

/-- `s` with the access of the row's word offered next, so that the next step runs it (log 1). -/
def State.withFetchWord (s : State) (nbits w : Nat) : State := offerTableWord s nbits w

end Sys2Proof.Machine
end

