-- ==== Sys2Proof/Machine/Devices.lean ====
section
/-! DEFINITION. The two reference devices of 92_eei_decisions.md D26, which a claim about a chain's parallel outputs
or inputs names as its premise (43_hybrid.md R163). They are no part of the engine and no chip's data sheet (log 17). -/

namespace Sys2Proof.Machine

/-- D26, OUT-chain: a shift register `sr` of `width` bits and a storage `q`, whose value is the parallel outputs. The
levels are those of the lines it is wired to, as last driven. -/
structure OutChain where
  width : Nat
  clockPin : PinId
  latchPin : PinId
  dataPin : PinId
  clock : Level
  latch : Level
  data : Level
  sr : Nat
  q : Nat
  deriving DecidableEq, Repr

/-- D26, IN-chain: a chain `pr` of `width` bits and parallel inputs `inputs`. -/
structure InChain where
  width : Nat
  clockPin : PinId
  latchPin : PinId
  dataPin : PinId
  clock : Level
  latch : Level
  inputs : Nat
  pr : Nat
  deriving DecidableEq, Repr

/-- D26: on a rising clock edge `sr <- ((sr << 1) | dout) mod 2^W`. -/
def outChainClock (d : OutChain) (l : Level) : OutChain :=
  { d with
    clock := l
    sr := if !d.clock && l then (2 * d.sr + d.data.toNat) % 2 ^ d.width else d.sr }

/-- D26: on a rising latch edge `q <- sr`. -/
def outChainLatch (d : OutChain) (l : Level) : OutChain :=
  { d with latch := l, q := if !d.latch && l then d.sr else d.q }

/-- What one drive of pin `p` does to the OUT-chain: data line, then clock line, then latch line. -/
def outChainDrive (d : OutChain) (p : PinId) (l : Level) : OutChain :=
  let d := if p = d.dataPin then { d with data := l } else d
  let d := if p = d.clockPin then outChainClock d l else d
  if p = d.latchPin then outChainLatch d l else d

/-- One event, seen by the OUT-chain. -/
def outChainEvent (d : OutChain) (e : Event) : OutChain :=
  match e with
  | .drive p l => outChainDrive d p l
  | .setDir _ _ | .sample _ _ | .hold _ => d

/-- The OUT-chain after a trace. -/
def outChainRun (d : OutChain) (es : List Event) : OutChain := es.foldl outChainEvent d

/-- D26: on a rising clock edge `pr <- (pr << 1) mod 2^W`. -/
def inChainClock (d : InChain) (l : Level) : InChain :=
  { d with clock := l, pr := if !d.clock && l then 2 * d.pr % 2 ^ d.width else d.pr }

/-- D26: on a rising latch edge `pr <- P`. -/
def inChainLatch (d : InChain) (l : Level) : InChain :=
  { d with latch := l, pr := if !d.latch && l then d.inputs else d.pr }

/-- What one drive of pin `p` does to the IN-chain: clock line, then latch line. -/
def inChainDrive (d : InChain) (p : PinId) (l : Level) : InChain :=
  let d := if p = d.clockPin then inChainClock d l else d
  if p = d.latchPin then inChainLatch d l else d

/-- One event, seen by the IN-chain. -/
def inChainEvent (d : InChain) (e : Event) : InChain :=
  match e with
  | .drive p l => inChainDrive d p l
  | .setDir _ _ | .sample _ _ | .hold _ => d

/-- D26: data-in shows `pr[W-1]`. -/
def inChainShows (d : InChain) : Level := d.pr.testBit (d.width - 1)

/-- The event is one the IN-chain allows: a sample of its data line reads the level it shows. -/
def inChainAllows (d : InChain) (e : Event) : Bool :=
  match e with
  | .sample p l => p != d.dataPin || l == inChainShows d
  | .setDir _ _ | .drive _ _ | .hold _ => true

/-- Every sample of a trace reads what the IN-chain shows at that point: the premise that the GPIO environment is
this device (R59). DESIGN CHOICE (log 17): the parallel inputs stay `d.inputs` over the whole trace. D26 does not say
whether they may change while a command runs; the chain loads them at a latch rise only. -/
def inChainAgrees (d : InChain) : List Event → Bool
  | [] => true
  | e :: es => inChainAllows d e && inChainAgrees (inChainEvent d e) es

end Sys2Proof.Machine
end

