-- ==== Sys2Proof/Machine/System.lean ====
section
/-! DEFINITION. Several engine instances on one platform (60_exceptions.md R275): each has its own state, and a
system in which two configured instances share a pin is refused (log 16). -/

namespace Sys2Proof.Machine

/-- R275: the pins an instance uses: its clock and latch lines, its data lines where they are wired (R13), and every
pin it has issued an event to. DESIGN CHOICE (log 16): a data pin of 0, not wired, is used from the instance's first
event on pin 0 (R28, R55), and not for standing in the register. -/
def usedPins (s : State) : List PinId :=
  [s.clockPin, s.latchPin] ++ ([s.dataInPin, s.dataOutPin].filter (fun p => p != 0#8)) ++ s.trace.filterMap eventPin

/-- R275: both instances are configured and some pin is used by both. -/
def sharesPin (a b : State) : Bool :=
  a.configured && b.configured && (usedPins a).any (fun p => (usedPins b).contains p)

/-- R275: no two configured instances share a pin. -/
def pinsDisjoint : List State → Bool
  | [] => true
  | a :: rest => rest.all (fun b => !sharesPin a b) && pinsDisjoint rest

/-- R275: instance `k` takes its next input, and its free samples come from stream `k`, no other instance's (log 7).
A system whose instances share a pin, before the step or after it, is refused. An index of no instance changes
nothing. -/
def systemStep (k : Nat) (sys : List State) : Host.Outcome (List State) Fault Refusal :=
  if !pinsDisjoint sys then .refused .sharedPins
  else
    match sys[k]? with
    | none => .next sys
    | some s =>
      match step (s.withEnv k) with
      | .next t => if pinsDisjoint (sys.set k t) then .next (sys.set k t) else .refused .sharedPins
      | .fault r => .fault r
      | .refused r => .refused r

end Sys2Proof.Machine
end

