-- ==== Sys2Proof/Safety.lean ====
section
/-! DEFINITION. The terms claims are stated in: the traces as the spec lists them, in closed form; the value a
capture leaves; the numbers of the encodings; and the invariant of a sound engine. None of it is used by `step`. -/

namespace Sys2Proof.Machine

/-! ### Traces as the rules list them -/

/-- R12: `CP`. -/
def cpTrace (s : State) : List Event :=
  [.drive s.clockPin true, .hold s.clockEdgeDelay, .drive s.clockPin false, .hold s.clockEdgeDelay]

/-- R12: `LP`. -/
def lpTrace (s : State) : List Event :=
  [.drive s.latchPin true, .hold s.latchPulseDelay, .drive s.latchPin false]

/-- R120, R121: for `i = W-1` down to 0 the pair `D(dout, bit i ^ inv) CP`. -/
def outTrace (bit : Nat → Level) (s : State) : List Event :=
  (List.range (bitWidth s)).reverse.flatMap
    (fun i => .drive s.dataOutPin (bit i ^^ s.invertOutput) :: cpTrace s)

/-- R59: the level `s_k` that the environment, as it stands in `s`, answers to the `k`-th sample of data-in. -/
def answer (s : State) (k : Nat) : Level :=
  if h : k < s.samples.length then s.samples[k]
  else Config.gpioLevel s.env (s.draws + (k - s.samples.length)) s.dataInPin

/-- R142: the W levels the environment, as it stands in `s`, answers, `s_0` first. -/
def answers (s : State) : List Level := (List.range (bitWidth s)).map (answer s)

/-- R142: for each sample, in order, the pair `S(din)=s_k CP`. -/
def inTrace (s : State) (ss : List Level) : List Event :=
  ss.flatMap (fun l => .sample s.dataInPin l :: cpTrace s)

/-- R121. -/
def writeTrace (s : State) : List Event := outTrace (fun i => s.outputBuffer.getLsbD i) s ++ lpTrace s

/-- R142, for samples answered `ss`. -/
def readTrace (s : State) (ss : List Level) : List Event :=
  [.drive s.latchPin true] ++ inTrace s ss ++ [.drive s.latchPin false]

/-- R160, for samples answered `ss`. -/
def hybridTrace (s : State) (ss : List Level) : List Event :=
  outTrace (fun i => s.outputBuffer.getLsbD i) s ++ readTrace s ss

/-- R180. -/
def fillTrace (arg : BitVec 24) (s : State) : List Event :=
  outTrace (fun _ => decide (arg.toNat ≠ 0)) s ++ lpTrace s

/-- R200: an event of the set-up, only for a pin that is not 0. -/
def wiredEvent (p : PinId) (e : Event) : List Event := if p.toNat = 0 then [] else [e]

/-- R200: the set-up events of CONFIGURE. -/
def setUpTrace (s : State) : List Event :=
  wiredEvent s.clockPin (.setDir s.clockPin .output) ++ wiredEvent s.dataInPin (.setDir s.dataInPin .input) ++
  wiredEvent s.dataOutPin (.setDir s.dataOutPin .output) ++ wiredEvent s.latchPin (.setDir s.latchPin .output) ++
  wiredEvent s.clockPin (.drive s.clockPin false) ++ wiredEvent s.dataOutPin (.drive s.dataOutPin false) ++
  wiredEvent s.latchPin (.drive s.latchPin false)

/-- R205: the trace of the transfer MODE selects, for samples answered `ss`. -/
def transferTrace (s : State) (ss : List Level) : List Event :=
  match s.mode with
  | .writeOnly => writeTrace s
  | .readOnly => readTrace s ss
  | .readWrite => hybridTrace s ss

/-! ### What a capture leaves -/

/-- R143: `sum over k = 0..W-1 of zext_32(s_k) << (W-1-k)`, for W samples `ss`. -/
def captureSum (ss : List Level) : Word :=
  ((List.range ss.length).map (fun k => zextLevel (ss.getD k false) <<< (ss.length - 1 - k))).sum

/-- The state after W samples, as far as INPUT_BUFFER (R143) and the environment's answers (log 7) go. -/
def captured (s : State) : State :=
  { s with
    inputBuffer := captureSum (answers s)
    samples := s.samples.drop (bitWidth s)
    draws := s.draws + (bitWidth s - s.samples.length) }

/-- The part of the state other than trace and result code that the transfer MODE selects changes (R205). -/
def afterTransfer (s : State) : State :=
  match s.mode with
  | .writeOnly => s
  | .readOnly | .readWrite => captured s

/-- A command that ran: its events are added to the trace and its code is 0 (R260). -/
def ranWith (s : State) (es : List Event) : State := { s with trace := s.trace ++ es, errCode := .ok }

/-- A command that raised an error: the code is written, nothing else changes (R262). -/
def erredWith (s : State) (e : ErrCode) : State := { s with errCode := e }

/-- A host read returned `v` and changed nothing else (R53). -/
def answeredWith (s : State) (v : Word) : State := { s with reads := s.reads ++ [v] }

/-- `t` is `s` but for the trace, INPUT_BUFFER, the code, and which of the environment's answers are used up. -/
abbrev OnlyCaptures (s t : State) : Prop :=
  t = { s with
    trace := t.trace, inputBuffer := t.inputBuffer, errCode := t.errCode, samples := t.samples, draws := t.draws }

/-- R205: `t` is `s` after the events `before` and one transfer by MODE, ended with code 0: in WRITE_ONLY mode the
write's events and nothing else; in the other two, for some W answers of the environment, the events with those
answers, and their sum in INPUT_BUFFER. -/
abbrev TransferOutcome (s t : State) (before : List Event) : Prop :=
  t.errCode = .ok ∧ OnlyCaptures s t ∧
  ∃ ss : List Level, ss.length = bitWidth s ∧ t.trace = s.trace ++ before ++ transferTrace s ss ∧
    (s.mode = .writeOnly → t = ranWith s (before ++ writeTrace s)) ∧
    (s.mode ≠ .writeOnly → t.inputBuffer = captureSum ss)

/-! ### Which pins a command needs -/

/-- R55: pin `p` exists on the platform of `s`. -/
abbrev Present (s : State) (p : PinId) : Prop := p.toNat < s.numGpio

/-- The pins of a serial-out command exist: the latch pin, and the two others if a bit is shifted. -/
abbrev WritePins (s : State) : Prop :=
  Present s s.latchPin ∧ (s.widthBytes.toNat ≠ 0 → Present s s.clockPin ∧ Present s s.dataOutPin)

/-- The pins of a serial-in command exist. -/
abbrev ReadPins (s : State) : Prop :=
  Present s s.latchPin ∧ (s.widthBytes.toNat ≠ 0 → Present s s.clockPin ∧ Present s s.dataInPin)

/-- The pins of the transfer MODE selects exist. -/
abbrev TransferPins (s : State) : Prop :=
  (s.mode ≠ .readOnly → WritePins s) ∧ (s.mode ≠ .writeOnly → ReadPins s)

/-- The pins CONFIGURE needs exist: those of its transfer, and every pin that is set up. -/
abbrev ConfigurePins (s : State) : Prop :=
  TransferPins s ∧
  (∀ p ∈ [s.clockPin, s.dataInPin, s.dataOutPin, s.latchPin], p.toNat ≠ 0 → Present s p)

/-- R55: the instruction is refused, for a pin that does not exist. -/
abbrev RefusedForPin (i : Instr) (s : State) : Prop :=
  ∃ p, exec i s = .refused (.noSuchPin p) ∧ s.numGpio ≤ p.toNat

/-! ### Numbers of the encodings -/

/-- R260: a result's code. -/
def errNumber (e : ErrCode) : Nat :=
  match e with
  | .ok => 0
  | .widthExceedsMax => 1
  | .notConfigured => 2
  | .alreadyConfigured => 3
  | .illegalCommand => 4

/-- R24: a mode's number. -/
def modeNumber (m : Mode) : Nat :=
  match m with
  | .writeOnly => 0
  | .readOnly => 1
  | .readWrite => 2

/-- R81: the commands other than CONFIGURE. -/
def isTransferOrPulse (i : Instr) : Bool :=
  match i with
  | .clockPulse | .latchPulse | .write | .read | .readWrite | .transfer | .fill _ => true
  | _ => false

/-- The operations that run a command: the eight commands and the write of a word to COMMAND (R221). -/
def isCommand (i : Instr) : Bool :=
  match i with
  | .configure | .wrCommand _ => true
  | i => isTransferOrPulse i

/-- The operation is CONFIGURE, in either spelling (R81, R86). -/
def isConfigure (i : Instr) : Bool :=
  match i with
  | .configure => true
  | .wrCommand v => v.toNat == 1
  | _ => false

/-- R320: the sum of the lower bounds of a trace's holds, in microseconds. -/
def holdSum (es : List Event) : Nat :=
  (es.map (fun e => match e with
    | .hold d => d.toNat
    | .setDir _ _ | .drive _ _ | .sample _ _ => 0)).sum

/-- R320: the figure of the command MODE selects, for its rows TRANSFER and CONFIGURE. -/
def selectedHolds (s : State) : Nat :=
  match s.mode with
  | .writeOnly => 2 * bitWidth s * s.clockEdgeDelay.toNat + s.latchPulseDelay.toNat
  | .readOnly => 2 * bitWidth s * s.clockEdgeDelay.toNat
  | .readWrite => 4 * bitWidth s * s.clockEdgeDelay.toNat

/-! ### The invariant -/

/-- What holds between two accesses, whatever the host does: nothing is issued before CONFIGURE (R300); once
CONFIGURED the width is at most 4 (R25), every event was on a pin that exists (R55), the clock and latch lines were
not left high (R319), and the pins keep the direction CONFIGURE gave them (R200, R202; where two roles share a pin,
the later of CONFIGURE's events counts, R267). -/
abbrev Inv (s : State) : Prop :=
  (s.configured = false → s.trace = []) ∧
  (s.configured = true →
    s.widthBytes.toNat ≤ 4 ∧
    (∀ e ∈ s.trace, ∀ p ∈ eventPin e, Present s p) ∧
    lineLevel s.clockPin s.trace ≠ some true ∧
    lineLevel s.latchPin s.trace ≠ some true ∧
    (s.latchPin ≠ 0#8 → lineDir s.latchPin s.trace = some .output) ∧
    (s.dataOutPin ≠ 0#8 → lineDir s.dataOutPin s.trace = some .output) ∧
    (s.clockPin ≠ 0#8 → s.clockPin ≠ s.dataInPin → lineDir s.clockPin s.trace = some .output) ∧
    (s.dataInPin ≠ 0#8 → s.dataInPin ≠ s.dataOutPin → s.dataInPin ≠ s.latchPin →
      lineDir s.dataInPin s.trace = some .input))

end Sys2Proof.Machine
end

