-- ==== Sys2Proof/Certificates/Slice0/Obligations.lean ====
section
/-! DEFINITION. The statements for the provers. Each docstring names the rules of spec/ it formalises. -/

open Sys2Proof Sys2Proof.Machine

/-! ### Encoding and the step -/

/-- R80, R81, R51: decoding the access an instruction is encoded as gives the instruction back, with every operand at
every value its field admits. -/
def Obligations.DecodeEncode : Prop :=
  ∀ i : Instr, WellFormed i = true → decode (encode i) = .ok i

/-- R80, R51, R52: an access that decodes is the encoding of what it decodes to, which is well formed. The data of a
read is no part of it. -/
def Obligations.EncodeDecode : Prop :=
  ∀ (a : Access) (i : Instr), decode a = .ok i → (a.rw = .read → a.data = 0#32) →
    encode i = a ∧ WellFormed i = true

/-- R81: the eight match and mask pairs of the opcode map select the eight commands, each only its own, and
every other word is illegal. -/
def Obligations.CommandMatchMask : Prop :=
  ∀ w : Word,
    (decodeCommand w = some .configure ↔ w &&& 0xFFFFFFFF#32 = 0x00000001#32) ∧
    (decodeCommand w = some .clockPulse ↔ w &&& 0xFFFFFFFF#32 = 0x00000002#32) ∧
    (decodeCommand w = some .latchPulse ↔ w &&& 0xFFFFFFFF#32 = 0x00000003#32) ∧
    (decodeCommand w = some .write ↔ w &&& 0xFFFFFFFF#32 = 0x00000004#32) ∧
    (decodeCommand w = some .read ↔ w &&& 0xFFFFFFFF#32 = 0x00000005#32) ∧
    (decodeCommand w = some .readWrite ↔ w &&& 0xFFFFFFFF#32 = 0x00000006#32) ∧
    (decodeCommand w = some .transfer ↔ w &&& 0xFFFFFFFF#32 = 0x00000007#32) ∧
    (decodeCommand w = some (.fill (w.extractLsb' 8 24)) ↔ w &&& 0x000000FF#32 = 0x00000008#32) ∧
    (decodeCommand w = none ↔
      ¬ (1 ≤ w.toNat ∧ w.toNat ≤ 7) ∧ w &&& 0x000000FF#32 ≠ 0x00000008#32)

/-- R81, R86, R20: words and accesses written out from the spec decode to what they stand for. -/
def Obligations.WordsDecode : Prop :=
  decode ⟨.write, 4, 0x00, 0x00000001#32⟩ = .ok .configure ∧
  decode ⟨.write, 4, 0x00, 0x00000006#32⟩ = .ok .readWrite ∧
  decode ⟨.write, 4, 0x00, 0x00000708#32⟩ = .ok (.fill 7#24) ∧
  decode ⟨.write, 4, 0x00, 0x00000104#32⟩ = .ok (.wrCommand 0x00000104#32) ∧
  decode ⟨.read, 4, 0x04, 0#32⟩ = .ok .rdStatus ∧
  decode ⟨.write, 4, 0x2C, 0xA5#32⟩ = .ok (.wrOutputBuffer 0xA5#32) ∧
  decode ⟨.read, 4, 0x3C, 0#32⟩ = .ok .rdReserved3C

/-- R84: a word with OPC 0x00 or 0x09 to 0xFF, or with a non-zero ARG and an OPC other than 0x08, selects no command;
written to COMMAND it writes code 4 and changes nothing else, in both lifecycle states. -/
def Obligations.IllegalWord : Prop :=
  ∀ (w : Word) (s : State),
    (w.toNat % 256 = 0 ∨ 9 ≤ w.toNat % 256 ∨ (w.toNat / 256 ≠ 0 ∧ w.toNat % 256 ≠ 8)) →
    decodeCommand w = none ∧ exec (.wrCommand w) s = .next (erredWith s .illegalCommand)

/-- R221: a write to COMMAND runs the command its word selects; a word that selects none is an illegal command. -/
def Obligations.CommandWriteRuns : Prop :=
  ∀ (w : Word) (s : State),
    exec (.wrCommand w) s =
      match decodeCommand w with
      | some i => exec i s
      | none => .next (erredWith s .illegalCommand)

/-- R52: inside the window the accesses that are instructions are exactly the 32-bit ones at a word-aligned offset; any
other is refused. -/
def Obligations.OnlyAlignedWords : Prop :=
  ∀ a : Access, a.off < 64 →
    ((∃ i, decode a = .ok i) ↔ (a.size = 4 ∧ a.off % 4 = 0)) ∧
    (∀ s rest, s.inputs = .access a :: rest → ¬ (a.size = 4 ∧ a.off % 4 = 0) →
      ∃ r, step s = .refused r ∧ (r = .notWordAccess a.size ∨ r = .misalignedAccess a.off))

/-- R51, R11: seen from ENGINE_BASE, an address of the window is the access at its offset, and an address outside does
not reach the engine; an access beyond the window changes no register and issues nothing. That an access is judged by
its first address alone, whatever its size, is the model's choice (log 2). -/
def Obligations.WindowOnly : Prop :=
  (∀ addr rw v, Config.engineBase ≤ addr → addr < Config.engineBase + 64 →
    accessAt Config.engineBase addr rw 4 v = some ⟨rw, 4, addr - Config.engineBase, v⟩) ∧
  (∀ addr rw size v, addr < Config.engineBase ∨ Config.engineBase + 64 ≤ addr →
    accessAt Config.engineBase addr rw size v = none) ∧
  (∀ s a rest, s.inputs = .access a :: rest → 64 ≤ a.off → step s = .next { s with inputs := rest })

/-- R50, R61: when the next access decodes to an instruction, the step is that instruction, run with the access
taken. -/
def Obligations.StepRunsInstruction : Prop :=
  ∀ (s : State) (a : Access) (rest : List Input) (i : Instr),
    s.inputs = .access a :: rest → decode a = .ok i → step s = exec i { s with inputs := rest }

/-! ### Reset and lifecycle -/

/-- R21, R300 (log 10: power-on reset as an input, and what of the host, platform and environment it keeps, is the
model's): a power-on reset puts every register at its power-on value in any state. -/
def Obligations.PowerOnInput : Prop :=
  ∀ s rest, s.inputs = .powerOn :: rest → ∃ t, step s = .next t ∧
    statusWord t = 0#32 ∧ modeNumber t.mode = 0 ∧ t.widthBytes = 0#8 ∧ t.clockPin = 0#8 ∧
    t.dataInPin = 0#8 ∧ t.dataOutPin = 0#8 ∧ t.latchPin = 0#8 ∧
    t.clockEdgeDelay = Config.defaultClockEdgeDelayUs ∧ t.latchPulseDelay = Config.defaultLatchPulseDelayUs ∧
    t.invertOutput = false ∧ t.outputBuffer = 0#32 ∧ t.inputBuffer = 0#32 ∧ t.trace = [] ∧
    t.inputs = rest ∧ t.reads = s.reads ∧ t.numGpio = s.numGpio ∧ t.env = s.env

/-- R300: every register's value after power-on reset; no event is issued at reset, nor after it until the host writes
CONFIGURE. -/
def Obligations.ResetValues : Prop :=
  (statusWord State.reset = 0x00000000#32 ∧ modeNumber State.reset.mode = 0 ∧ State.reset.widthBytes = 0#8 ∧
    State.reset.clockPin = 0#8 ∧ State.reset.dataInPin = 0#8 ∧ State.reset.dataOutPin = 0#8 ∧
    State.reset.latchPin = 0#8 ∧ State.reset.clockEdgeDelay = Config.defaultClockEdgeDelayUs ∧
    State.reset.latchPulseDelay = Config.defaultLatchPulseDelayUs ∧ State.reset.invertOutput = false ∧
    State.reset.outputBuffer = 0#32 ∧ State.reset.inputBuffer = 0#32 ∧ State.reset.trace = []) ∧
  (∀ i s t, s.configured = false → isConfigure i = false → exec i s = .next t →
    t.trace = s.trace ∧ t.configured = false)

/-- R21, R304 (log 10: power-on reset as an input is the model's): only a successful CONFIGURE takes the engine from
UNCONFIGURED to CONFIGURED; a failed one leaves it UNCONFIGURED; no instruction goes back; a step leaves CONFIGURED
only at a power-on reset, which always enters UNCONFIGURED. -/
def Obligations.LifecycleOneWay : Prop :=
  (∀ i s t, exec i s = .next t → s.configured = false → t.configured = true →
    isConfigure i = true ∧ t.errCode = .ok) ∧
  (∀ s t, exec .configure s = .next t → s.configured = false → t.errCode ≠ .ok → t.configured = false) ∧
  (∀ i s t, exec i s = .next t → s.configured = true → t.configured = true) ∧
  (∀ s t, step s = .next t → s.configured = true → t.configured = false → s.inputs.head? = some .powerOn) ∧
  (∀ s t, step s = .next t → s.inputs.head? = some .powerOn → t.configured = false)

/-! ### Register reads -/

/-- R222, R23: bit 0 of STATUS is CONFIGURED, bits 7:4 are the code, every other bit reads 0; the read changes
nothing. -/
def Obligations.ReadStatus : Prop :=
  ∀ s : State, ∃ v : Word, exec .rdStatus s = .next (answeredWith s v) ∧
    ∀ i : Nat, v.getLsbD i =
      if i = 0 then s.configured
      else if 4 ≤ i ∧ i < 8 then (errNumber s.errCode).testBit (i - 4)
      else false

/-- R224, R226, R228, R230, R232, R234, R240: a read of a register with a narrow field returns the field's number,
zero-extended, and changes nothing. -/
def Obligations.ReadFields : Prop :=
  ∀ s : State,
    (∃ v : Word, exec .rdMode s = .next (answeredWith s v) ∧ v.toNat = modeNumber s.mode) ∧
    (∃ v : Word, exec .rdWidthBytes s = .next (answeredWith s v) ∧ v.toNat = s.widthBytes.toNat) ∧
    (∃ v : Word, exec .rdClockPin s = .next (answeredWith s v) ∧ v.toNat = s.clockPin.toNat) ∧
    (∃ v : Word, exec .rdDataInPin s = .next (answeredWith s v) ∧ v.toNat = s.dataInPin.toNat) ∧
    (∃ v : Word, exec .rdDataOutPin s = .next (answeredWith s v) ∧ v.toNat = s.dataOutPin.toNat) ∧
    (∃ v : Word, exec .rdLatchPin s = .next (answeredWith s v) ∧ v.toNat = s.latchPin.toNat) ∧
    (∃ v : Word, exec .rdInvertOutput s = .next (answeredWith s v) ∧ v.toNat = s.invertOutput.toNat)

/-- R236, R238, R242, R244: a read of a 32-bit register returns all of it and changes nothing. -/
def Obligations.ReadWords : Prop :=
  ∀ s : State,
    exec .rdClockEdgeDelay s = .next (answeredWith s s.clockEdgeDelay) ∧
    exec .rdLatchPulseDelay s = .next (answeredWith s s.latchPulseDelay) ∧
    exec .rdOutputBuffer s = .next (answeredWith s s.outputBuffer) ∧
    exec .rdInputBuffer s = .next (answeredWith s s.inputBuffer)

/-- R220, R246: COMMAND and the reserved offsets read 0; the read runs nothing and changes nothing. -/
def Obligations.ReadZero : Prop :=
  ∀ s : State, ∀ i ∈ [Instr.rdCommand, .rdReserved34, .rdReserved38, .rdReserved3C],
    exec i s = .next (answeredWith s 0x00000000#32)

/-! ### Register writes -/

/-- R223, R247: a write of any value to STATUS or to a reserved offset changes nothing. -/
def Obligations.WriteIgnored : Prop :=
  ∀ (s : State) (v : Word),
    ∀ i ∈ [Instr.wrStatus v, .wrReserved34 v, .wrReserved38 v, .wrReserved3C v], exec i s = .next s

/-- R225: while UNCONFIGURED, bits 1:0 of 0, 1 and 2 are stored and 3 leaves MODE unchanged; while CONFIGURED every
write is ignored. Nothing else changes. -/
def Obligations.WriteMode : Prop :=
  ∀ (s : State) (v : Word), ∃ m : Mode, exec (.wrMode v) s = .next { s with mode := m } ∧
    (s.configured = false → v.toNat % 4 ≠ 3 → modeNumber m = v.toNat % 4) ∧
    (s.configured = false → v.toNat % 4 = 3 → m = s.mode) ∧
    (s.configured = true → m = s.mode)

/-- R227, R229, R231, R233, R235: while UNCONFIGURED a write stores bits 7:0; while CONFIGURED it is ignored. Nothing
else changes. -/
def Obligations.WriteLockedBytes : Prop :=
  ∀ (s : State) (v : Word), ∃ b : Byte, b.toNat = v.toNat % 256 ∧
    (s.configured = false →
      exec (.wrWidthBytes v) s = .next { s with widthBytes := b } ∧
      exec (.wrClockPin v) s = .next { s with clockPin := b } ∧
      exec (.wrDataInPin v) s = .next { s with dataInPin := b } ∧
      exec (.wrDataOutPin v) s = .next { s with dataOutPin := b } ∧
      exec (.wrLatchPin v) s = .next { s with latchPin := b }) ∧
    (s.configured = true →
      ∀ i ∈ [Instr.wrWidthBytes v, .wrClockPin v, .wrDataInPin v, .wrDataOutPin v, .wrLatchPin v],
        exec i s = .next s)

/-- R237, R239, R241, R243, R245: in both lifecycle states a write stores all 32 bits, for INVERT_OUTPUT bit 0.
Nothing else changes. -/
def Obligations.WriteAlways : Prop :=
  ∀ (s : State) (v : Word),
    exec (.wrClockEdgeDelay v) s = .next { s with clockEdgeDelay := v } ∧
    exec (.wrLatchPulseDelay v) s = .next { s with latchPulseDelay := v } ∧
    exec (.wrInvertOutput v) s = .next { s with invertOutput := decide (v.toNat % 2 = 1) } ∧
    exec (.wrOutputBuffer v) s = .next { s with outputBuffer := v } ∧
    exec (.wrInputBuffer v) s = .next { s with inputBuffer := v }

/-! ### Commands -/

/-- R104, R100: CLOCK_PULSE issues `D(clk,1) H(ce) D(clk,0) H(ce)` and writes code 0; NOT_CONFIGURED while UNCONFIGURED
and ILLEGAL_COMMAND with a non-zero ARG, with no event. -/
def Obligations.ClockPulseRule : Prop :=
  decodeCommand 0x00000002#32 = some .clockPulse ∧
  (∀ s : State, s.configured = true → Present s s.clockPin →
    exec .clockPulse s = .next (ranWith s
      [.drive s.clockPin true, .hold s.clockEdgeDelay, .drive s.clockPin false, .hold s.clockEdgeDelay])) ∧
  (∀ s : State, s.configured = false → exec .clockPulse s = .next (erredWith s .notConfigured)) ∧
  (∀ (s : State) (arg : BitVec 24), arg ≠ 0#24 →
    exec (.wrCommand (arg ++ 0x02#8)) s = .next (erredWith s .illegalCommand))

/-- R105, R101: LATCH_PULSE issues `D(lat,1) H(lp) D(lat,0)` and writes code 0; the same two errors. -/
def Obligations.LatchPulseRule : Prop :=
  decodeCommand 0x00000003#32 = some .latchPulse ∧
  (∀ s : State, s.configured = true → Present s s.latchPin →
    exec .latchPulse s = .next (ranWith s
      [.drive s.latchPin true, .hold s.latchPulseDelay, .drive s.latchPin false])) ∧
  (∀ s : State, s.configured = false → exec .latchPulse s = .next (erredWith s .notConfigured)) ∧
  (∀ (s : State) (arg : BitVec 24), arg ≠ 0#24 →
    exec (.wrCommand (arg ++ 0x03#8)) s = .next (erredWith s .illegalCommand))

/-- R121, R120: WRITE issues, for `i = W-1` down to 0, `D(dout, OUTPUT_BUFFER[i]^inv) CP`, then `LP`: 5W+3 events. Only
the code is written; the same two errors. -/
def Obligations.WriteRule : Prop :=
  decodeCommand 0x00000004#32 = some .write ∧
  (∀ s : State, s.configured = true → WritePins s →
    exec .write s = .next (ranWith s (writeTrace s)) ∧ (writeTrace s).length = 5 * bitWidth s + 3) ∧
  (∀ s : State, s.configured = false → exec .write s = .next (erredWith s .notConfigured)) ∧
  (∀ (s : State) (arg : BitVec 24), arg ≠ 0#24 →
    exec (.wrCommand (arg ++ 0x04#8)) s = .next (erredWith s .illegalCommand))

/-- R142, R140, R143: for some W levels `ss`, the environment's answers, READ raises the latch, issues for each answer in
order the pair `S(din)=s_k CP`, and lowers the latch: 5W+2 events. INPUT_BUFFER takes the sum of R143, the code is 0,
no other register changes; the same two errors, which leave INPUT_BUFFER as it was. -/
def Obligations.ReadRule : Prop :=
  decodeCommand 0x00000005#32 = some .read ∧
  (∀ s : State, s.configured = true → ReadPins s →
    ∃ t ss, exec .read s = .next t ∧ ss.length = bitWidth s ∧ t.trace = s.trace ++ readTrace s ss ∧
      (readTrace s ss).length = 5 * bitWidth s + 2 ∧ t.inputBuffer = captureSum ss ∧ t.errCode = .ok ∧
      OnlyCaptures s t) ∧
  (∀ s : State, s.configured = false → exec .read s = .next (erredWith s .notConfigured)) ∧
  (∀ (s : State) (arg : BitVec 24), arg ≠ 0#24 →
    exec (.wrCommand (arg ++ 0x05#8)) s = .next (erredWith s .illegalCommand))

/-- R160: for some W answers of the environment, READ_WRITE issues the serial-out pairs, raises the latch, issues the
serial-in pairs and lowers the latch: 10W+2 events, no LatchPulse. INPUT_BUFFER takes the sum of R143, the code is 0, no
other register changes; the same two errors. -/
def Obligations.ReadWriteRule : Prop :=
  decodeCommand 0x00000006#32 = some .readWrite ∧
  (∀ s : State, s.configured = true → WritePins s → ReadPins s →
    ∃ t ss, exec .readWrite s = .next t ∧ ss.length = bitWidth s ∧ t.trace = s.trace ++ hybridTrace s ss ∧
      (hybridTrace s ss).length = 10 * bitWidth s + 2 ∧ t.inputBuffer = captureSum ss ∧ t.errCode = .ok ∧
      OnlyCaptures s t) ∧
  (∀ s : State, s.configured = false → exec .readWrite s = .next (erredWith s .notConfigured)) ∧
  (∀ (s : State) (arg : BitVec 24), arg ≠ 0#24 →
    exec (.wrCommand (arg ++ 0x06#8)) s = .next (erredWith s .illegalCommand))

/-- Log 7, R58, R59: which answers a capture gets: the coming samples first, in order, then the free value, one draw each;
the W answers are used up. -/
def Obligations.AnswersInOrder : Prop :=
  ∀ s t : State, s.configured = true →
    (exec .read s = .next t → t = ranWith (captured s) (readTrace s (answers s))) ∧
    (exec .readWrite s = .next t → t = ranWith (captured s) (hybridTrace s (answers s)))

/-- R180, R83: FILL issues W times `D(dout, fb^inv) CP` with `fb = (ARG != 0)`, then `LP`: 5W+3 events. Only the code is
written; NOT_CONFIGURED while UNCONFIGURED; no ARG is illegal. -/
def Obligations.FillRule : Prop :=
  (∀ arg : BitVec 24, decodeCommand (arg ++ 0x08#8) = some (.fill arg)) ∧
  (∀ (s : State) (arg : BitVec 24), s.configured = true → WritePins s →
    exec (.fill arg) s = .next (ranWith s (fillTrace arg s)) ∧
    (fillTrace arg s).length = 5 * bitWidth s + 3) ∧
  (∀ (s : State) (arg : BitVec 24), s.configured = false →
    exec (.fill arg) s = .next (erredWith s .notConfigured)) ∧
  (∀ (s t : State) (arg : BitVec 24), exec (.wrCommand (arg ++ 0x08#8)) s = .next t → t.errCode ≠ .illegalCommand)

/-- R205: TRANSFER has, in state and trace, the outcome of the command MODE selects: 0 WRITE, 1 READ, 2 READ_WRITE. The same
two errors. -/
def Obligations.TransferRule : Prop :=
  decodeCommand 0x00000007#32 = some .transfer ∧
  (∀ s : State, s.configured = true → TransferPins s →
    ∃ t, exec .transfer s = .next t ∧ TransferOutcome s t []) ∧
  (∀ s : State, exec .transfer s =
    if modeNumber s.mode = 0 then exec .write s
    else if modeNumber s.mode = 1 then exec .read s
    else exec .readWrite s) ∧
  (∀ s : State, s.configured = false → exec .transfer s = .next (erredWith s .notConfigured)) ∧
  (∀ (s : State) (arg : BitVec 24), arg ≠ 0#24 →
    exec (.wrCommand (arg ++ 0x07#8)) s = .next (erredWith s .illegalCommand))

/-- R200, R202, R203: a CONFIGURE that passes its checks issues the set-up of the non-zero pins, directions before
drive-lows, each in the order clock, data-in, data-out, latch, and then one transfer by MODE; CONFIGURED is set,
INPUT_BUFFER is cleared and then captured where the mode reads, the code is 0, and nothing else changes. Its three
errors change only the code and issue no event. -/
def Obligations.ConfigureRule : Prop :=
  decodeCommand 0x00000001#32 = some .configure ∧
  (∀ s : State, s.configured = false → s.widthBytes.toNat ≤ 4 → ConfigurePins s →
    ∃ t, exec .configure s = .next t ∧
      TransferOutcome { s with configured := true, inputBuffer := 0x00000000#32 } t (setUpTrace s)) ∧
  (∀ s : State, s.configured = false → 4 < s.widthBytes.toNat →
    exec .configure s = .next (erredWith s .widthExceedsMax)) ∧
  (∀ s : State, s.configured = true → exec .configure s = .next (erredWith s .alreadyConfigured)) ∧
  (∀ (s : State) (arg : BitVec 24), arg ≠ 0#24 →
    exec (.wrCommand (arg ++ 0x01#8)) s = .next (erredWith s .illegalCommand))

/-- R201: while UNCONFIGURED, widths 5 to 255 fail with WIDTH_EXCEEDS_MAX and widths 0 to 4 never do: CONFIGURE then
succeeds, or is refused for a pin the platform does not have; no other register decides. -/
def Obligations.WidthCheck : Prop :=
  ∀ s : State, s.configured = false →
    (5 ≤ s.widthBytes.toNat ↔ exec .configure s = .next (erredWith s .widthExceedsMax)) ∧
    (s.widthBytes.toNat ≤ 4 →
      (∃ t, exec .configure s = .next t ∧ t.errCode = .ok ∧ t.configured = true) ∨
      (∃ p, exec .configure s = .refused (.noSuchPin p) ∧ s.numGpio ≤ p.toNat))

/-- R207: a CONFIGURE that fails leaves the engine UNCONFIGURED, issues nothing and keeps the staged registers; with
WIDTH_BYTES corrected, CONFIGURE succeeds. -/
def Obligations.ConfigureRetry : Prop :=
  ∀ (s : State) (v : Word), s.configured = false → 4 < s.widthBytes.toNat → v.toNat ≤ 4 → 256 ≤ s.numGpio →
    ∃ t u w, exec .configure s = .next t ∧ t = { s with errCode := .widthExceedsMax } ∧
      exec (.wrWidthBytes v) t = .next u ∧ exec .configure u = .next w ∧
      w.configured = true ∧ w.errCode = .ok ∧ w.widthBytes.toNat = v.toNat ∧ w.mode = s.mode ∧
      w.clockPin = s.clockPin ∧ w.dataInPin = s.dataInPin ∧ w.dataOutPin = s.dataOutPin ∧ w.latchPin = s.latchPin

/-- R143: READ and READ_WRITE leave in INPUT_BUFFER the sum of the W samples, each shifted to its place: at a width of at
most 4 bytes (R25) bit W-1-k holds sample k, and bits 31:W are 0. -/
def Obligations.CapturedBits : Prop :=
  ∀ (s t : State), s.configured = true → s.widthBytes.toNat ≤ 4 →
    exec .read s = .next t ∨ exec .readWrite s = .next t →
    t.inputBuffer = captureSum (answers s) ∧
    (∀ k, k < bitWidth s → t.inputBuffer.getLsbD (bitWidth s - 1 - k) = answer s k) ∧
    (∀ i, bitWidth s ≤ i → t.inputBuffer.getLsbD i = false)

/-! ### Errors -/

/-- R263: the code reported is ILLEGAL_COMMAND first, then ALREADY_CONFIGURED or NOT_CONFIGURED, then
WIDTH_EXCEEDS_MAX. -/
def Obligations.ErrorPriority : Prop :=
  ∀ (w : Word) (s : State),
    (legalCommandWord w = false → exec (.wrCommand w) s = .next (erredWith s .illegalCommand)) ∧
    (legalCommandWord w = true → w.toNat = 1 → s.configured = true →
      exec (.wrCommand w) s = .next (erredWith s .alreadyConfigured)) ∧
    (legalCommandWord w = true → w.toNat ≠ 1 → s.configured = false →
      exec (.wrCommand w) s = .next (erredWith s .notConfigured)) ∧
    (w.toNat = 1 → s.configured = false → 4 < s.widthBytes.toNat →
      exec (.wrCommand w) s = .next (erredWith s .widthExceedsMax))

/-- R262, R270: an error is precise: a command that ends with a code other than 0 changed the code and nothing else, and
issued no event. -/
def Obligations.ErrorsArePrecise : Prop :=
  ∀ (i : Instr) (s t : State), isCommand i = true → exec i s = .next t → t.errCode ≠ .ok →
    t = erredWith s t.errCode

/-- R261: the codes each command word can raise. -/
def Obligations.WhichErrors : Prop :=
  ∀ (w : Word) (s t : State), exec (.wrCommand w) s = .next t → t.errCode ≠ .ok →
    (w.toNat % 256 = 1 → t.errCode ∈ [ErrCode.widthExceedsMax, .alreadyConfigured, .illegalCommand]) ∧
    (w.toNat % 256 = 8 → t.errCode = .notConfigured) ∧
    (2 ≤ w.toNat % 256 → w.toNat % 256 ≤ 7 → t.errCode ∈ [ErrCode.notConfigured, .illegalCommand]) ∧
    (w.toNat % 256 = 0 ∨ 9 ≤ w.toNat % 256 → t.errCode = .illegalCommand)

/-- R55, R265: a pin at or above NUM_GPIO that a command would issue an event to is the one thing the model refuses a
command for; and each command past its checks that would issue an event to such a pin is refused. That the refusal is
of the whole command, and comes after the errors, is log 6's reading (DEDUCED). -/
def Obligations.MissingPinRefused : Prop :=
  (∀ (i : Instr) (s : State) (r : Refusal), exec i s = .refused r →
    isCommand i = true ∧ ∃ p, r = .noSuchPin p ∧ s.numGpio ≤ p.toNat) ∧
  (∀ s : State, s.configured = true →
    (¬ Present s s.clockPin → exec .clockPulse s = .refused (.noSuchPin s.clockPin)) ∧
    (¬ Present s s.latchPin → exec .latchPulse s = .refused (.noSuchPin s.latchPin)) ∧
    (¬ WritePins s → RefusedForPin .write s ∧ ∀ arg, RefusedForPin (.fill arg) s) ∧
    (¬ ReadPins s → RefusedForPin .read s) ∧
    (¬ (WritePins s ∧ ReadPins s) → RefusedForPin .readWrite s) ∧
    (¬ TransferPins s → RefusedForPin .transfer s)) ∧
  (∀ s : State, s.configured = false → s.widthBytes.toNat ≤ 4 → ¬ ConfigurePins s → RefusedForPin .configure s)

/-- R55: on a platform that has all 256 pins every instruction completes, in every state. -/
def Obligations.EverythingCompletes : Prop :=
  ∀ (i : Instr) (s : State), 256 ≤ s.numGpio → ∃ t, exec i s = .next t

/-! ### Whole-machine rules -/

/-- R23, R39: an operation that runs no command leaves STATUS as it was. -/
def Obligations.OnlyCommandsWriteStatus : Prop :=
  ∀ (i : Instr) (s t : State), isCommand i = false → exec i s = .next t →
    t.errCode = s.errCode ∧ t.configured = s.configured

/-- R303, R310: no register access other than the write to COMMAND has an effect on the pins. -/
def Obligations.OnlyCommandsTouchPins : Prop :=
  ∀ (i : Instr) (s t : State), isCommand i = false → exec i s = .next t → t.trace = s.trace

/-- R24 to R29: once CONFIGURED, no instruction changes MODE, WIDTH_BYTES or a pin register; and none ever changes the
number of pins. The last clause is the model's choice: NUM_GPIO (R7) stands in a field no step writes (log 5). -/
def Obligations.LockedAfterConfigure : Prop :=
  ∀ (i : Instr) (s t : State), exec i s = .next t →
    t.numGpio = s.numGpio ∧
    (s.configured = true →
      t.mode = s.mode ∧ t.widthBytes = s.widthBytes ∧ t.clockPin = s.clockPin ∧ t.dataInPin = s.dataInPin ∧
      t.dataOutPin = s.dataOutPin ∧ t.latchPin = s.latchPin)

/-- R33, R30 to R32: the four registers no command writes: OUTPUT_BUFFER, the two delays and INVERT_OUTPUT change only by
the host's write to that register. -/
def Obligations.HostRegisters : Prop :=
  ∀ (i : Instr) (s t : State), exec i s = .next t →
    (t.outputBuffer ≠ s.outputBuffer → ∃ v, i = .wrOutputBuffer v) ∧
    (t.clockEdgeDelay ≠ s.clockEdgeDelay → ∃ v, i = .wrClockEdgeDelay v) ∧
    (t.latchPulseDelay ≠ s.latchPulseDelay → ∃ v, i = .wrLatchPulseDelay v) ∧
    (t.invertOutput ≠ s.invertOutput → ∃ v, i = .wrInvertOutput v)

/-- R311: INPUT_BUFFER changes only by READ, READ_WRITE, TRANSFER in a reading mode, CONFIGURE, or a host write. -/
def Obligations.InputBufferWriters : Prop :=
  ∀ (i : Instr) (s t : State), exec i s = .next t → t.inputBuffer ≠ s.inputBuffer →
    (∃ v, i = .wrInputBuffer v) ∨
    (∃ c, (i = c ∨ ∃ w, i = .wrCommand w ∧ decodeCommand w = some c) ∧
      (c = .read ∨ c = .readWrite ∨ c = .configure ∨ (c = .transfer ∧ s.mode ≠ .writeOnly)))

/-- R61, R55: what an instruction issues is appended to the trace, in order, and every event of it is on a pin that
exists. -/
def Obligations.TraceOnlyGrows : Prop :=
  ∀ (i : Instr) (s t : State), exec i s = .next t →
    ∃ es, t.trace = s.trace ++ es ∧ ∀ e ∈ es, ∀ p ∈ eventPin e, Present s p

/-- R56: CONFIGURE is the only command that sets a direction. -/
def Obligations.OnlyConfigureSetsDirections : Prop :=
  ∀ (i : Instr) (s t : State), exec i s = .next t → isConfigure i = false →
    ∀ p, lineDir p t.trace = lineDir p s.trace

/-! ### What the lines are left at, and how many events and holds -/

/-- R123, R144, R164, R181: after a transfer that shifts at least one bit the clock and latch lines are low, whichever
roles share a pin; and a serial-out transfer leaves the data-out line at its last bit, if no other line shares its
pin. -/
def Obligations.LinesAfterTransfer : Prop :=
  ∀ (i : Instr) (s t : State), s.configured = true → 1 ≤ s.widthBytes.toNat → exec i s = .next t →
    (i = .write ∨ i = .read ∨ i = .readWrite ∨ (∃ arg, i = .fill arg) →
      lineLevel s.clockPin t.trace = some false ∧ lineLevel s.latchPin t.trace = some false) ∧
    (s.dataOutPin ≠ s.clockPin → s.dataOutPin ≠ s.latchPin →
      (i = .write ∨ i = .readWrite →
        lineLevel s.dataOutPin t.trace = some (s.outputBuffer.getLsbD 0 ^^ s.invertOutput)) ∧
      (∀ arg, i = .fill arg →
        lineLevel s.dataOutPin t.trace = some (decide (arg ≠ 0#24) ^^ s.invertOutput)) ∧
      (i = .read → lineLevel s.dataOutPin t.trace = lineLevel s.dataOutPin s.trace))

/-- R302: after a successful CONFIGURE from a state that has issued nothing, with the non-zero pins distinct: STATUS is
0x00000001, the staged registers are kept, INPUT_BUFFER is 0 in WRITE_ONLY mode and the W
sampled bits otherwise, non-zero clock and latch are outputs
driven low, non-zero data-out is an output at OUTPUT_BUFFER[0]^inv where the mode writes at least one bit and low
otherwise, non-zero data-in is an input. -/
def Obligations.AfterConfigure : Prop :=
  ∀ s t : State, s.configured = false → s.trace = [] → exec .configure s = .next t → t.errCode = .ok →
    (s.clockPin = s.dataInPin → s.clockPin = 0#8) → (s.clockPin = s.dataOutPin → s.clockPin = 0#8) →
    (s.clockPin = s.latchPin → s.clockPin = 0#8) → (s.dataInPin = s.dataOutPin → s.dataInPin = 0#8) →
    (s.dataInPin = s.latchPin → s.dataInPin = 0#8) → (s.dataOutPin = s.latchPin → s.dataOutPin = 0#8) →
    statusWord t = 0x00000001#32 ∧
    t.mode = s.mode ∧ t.widthBytes = s.widthBytes ∧ t.clockPin = s.clockPin ∧ t.dataInPin = s.dataInPin ∧
    t.dataOutPin = s.dataOutPin ∧ t.latchPin = s.latchPin ∧ t.outputBuffer = s.outputBuffer ∧
    t.invertOutput = s.invertOutput ∧ t.clockEdgeDelay = s.clockEdgeDelay ∧ t.latchPulseDelay = s.latchPulseDelay ∧
    (s.mode = .writeOnly → t.inputBuffer = 0#32) ∧ (s.mode ≠ .writeOnly → t.inputBuffer = captureSum (answers s)) ∧
    (s.clockPin ≠ 0#8 → lineDir s.clockPin t.trace = some .output ∧ lineLevel s.clockPin t.trace = some false) ∧
    (s.latchPin ≠ 0#8 → lineDir s.latchPin t.trace = some .output ∧ lineLevel s.latchPin t.trace = some false) ∧
    (s.dataOutPin ≠ 0#8 → lineDir s.dataOutPin t.trace = some .output ∧
      lineLevel s.dataOutPin t.trace =
        some (if s.mode ≠ .readOnly ∧ s.widthBytes ≠ 0#8 then s.outputBuffer.getLsbD 0 ^^ s.invertOutput
              else false)) ∧
    (s.dataInPin ≠ 0#8 → lineDir s.dataInPin t.trace = some .input)

/-- R106, R163: a READ_WRITE issues its W data-out drives and W clock pulses before its one latch raise, and its W
samples and W clock pulses after it and before the latch is lowered. -/
def Obligations.HybridEventOrder : Prop :=
  ∀ s t : State, s.configured = true → exec .readWrite s = .next t →
    ∃ out inn, t.trace = s.trace ++ out ++ [.drive s.latchPin true] ++ inn ++ [.drive s.latchPin false] ∧
      out.length = 5 * bitWidth s ∧ inn.length = 5 * bitWidth s ∧
      (∀ e ∈ out, ∀ p l, e ≠ .sample p l) ∧
      (∀ k, k < bitWidth s →
        (out.drop (5 * k)).take 5 =
          .drive s.dataOutPin (s.outputBuffer.getLsbD (bitWidth s - 1 - k) ^^ s.invertOutput) :: cpTrace s) ∧
      (∀ k, k < bitWidth s →
        (inn.drop (5 * k)).take 5 = .sample s.dataInPin (answer s k) :: cpTrace s)

/-- R320 (informative): the lower bounds of each command's holds sum to 2*ce, lp, 2*W*ce + lp, 2*W*ce and 4*W*ce;
those of TRANSFER, and of a CONFIGURE that succeeds, to the figure of the command MODE selects. -/
def Obligations.HoldSums : Prop :=
  ∀ s t : State,
    (s.configured = true →
      (exec .clockPulse s = .next t → holdSum (issued s t) = 2 * s.clockEdgeDelay.toNat) ∧
      (exec .latchPulse s = .next t → holdSum (issued s t) = s.latchPulseDelay.toNat) ∧
      (exec .write s = .next t →
        holdSum (issued s t) = 2 * bitWidth s * s.clockEdgeDelay.toNat + s.latchPulseDelay.toNat) ∧
      (∀ arg, exec (.fill arg) s = .next t →
        holdSum (issued s t) = 2 * bitWidth s * s.clockEdgeDelay.toNat + s.latchPulseDelay.toNat) ∧
      (exec .read s = .next t → holdSum (issued s t) = 2 * bitWidth s * s.clockEdgeDelay.toNat) ∧
      (exec .readWrite s = .next t → holdSum (issued s t) = 4 * bitWidth s * s.clockEdgeDelay.toNat) ∧
      (exec .transfer s = .next t → holdSum (issued s t) = selectedHolds s)) ∧
    (exec .configure s = .next t → t.errCode = .ok → holdSum (issued s t) = selectedHolds s)

/-- R321: how many events each command issues; a command that raises an error issues none. -/
def Obligations.EventCounts : Prop :=
  ∀ (i : Instr) (s t : State), isCommand i = true → exec i s = .next t →
    (t.errCode ≠ .ok → (issued s t).length = 0) ∧
    (t.errCode = .ok →
      (i = .clockPulse → (issued s t).length = 4) ∧
      (i = .latchPulse → (issued s t).length = 3) ∧
      (i = .write ∨ (∃ arg, i = .fill arg) → (issued s t).length = 5 * bitWidth s + 3) ∧
      (i = .read → (issued s t).length = 5 * bitWidth s + 2) ∧
      (i = .readWrite → (issued s t).length = 10 * bitWidth s + 2) ∧
      (i = .configure → ∃ n, n ≤ 7 ∧ (issued s t).length = n + (transferTrace s (answers s)).length))

/-! ### What a command does not depend on -/

/-- R33, R121: bits of OUTPUT_BUFFER at or above W are never driven: two states that agree on the W low bits issue the
same events. -/
def Obligations.HighBitsNotDriven : Prop :=
  ∀ (s : State) (v : Word) (i : Instr) (t u : State), (∀ k, k < bitWidth s → v.getLsbD k = s.outputBuffer.getLsbD k) →
    i = .write ∨ i = .readWrite ∨ i = .transfer →
    exec i s = .next t → exec i { s with outputBuffer := v } = .next u →
    u = { t with outputBuffer := v }

/-- R124: with INVERT_OUTPUT set, WRITE issues what it issues without it for the complement of OUTPUT_BUFFER, and
OUTPUT_BUFFER is unchanged. -/
def Obligations.InversionComplements : Prop :=
  ∀ s t u : State, s.configured = true → bitWidth s ≤ 32 →
    exec .write { s with invertOutput := true } = .next t →
    exec .write { s with invertOutput := false, outputBuffer := ~~~s.outputBuffer } = .next u →
    t.trace = u.trace ∧ t.outputBuffer = s.outputBuffer

/-- R83, R180: FILL reads only whether ARG is non-zero, and it neither reads nor writes OUTPUT_BUFFER. -/
def Obligations.FillReadsNoBuffer : Prop :=
  (∀ (s : State) (a b : BitVec 24), a ≠ 0#24 → b ≠ 0#24 → exec (.fill a) s = exec (.fill b) s) ∧
  (∀ (s t u : State) (a : BitVec 24) (v : Word), exec (.fill a) s = .next t →
    exec (.fill a) { s with outputBuffer := v } = .next u →
    t.outputBuffer = s.outputBuffer ∧ u = { t with outputBuffer := v })

/-- R58, R141: INVERT_OUTPUT is not applied to samples: READ leaves the same INPUT_BUFFER and trace whatever it
holds. -/
def Obligations.ReadIgnoresInversion : Prop :=
  ∀ (s t u : State) (b : Bool), exec .read s = .next t → exec .read { s with invertOutput := b } = .next u →
    u = { t with invertOutput := b }

/-! ### The invariant -/

/-- R300, R301: the invariant holds right after reset. -/
def Obligations.InvAtReset : Prop := Inv State.reset

/-- R25, R55, R200, R300, R319: every step keeps the invariant: nothing is issued before CONFIGURE; once CONFIGURED the
width is at most 4, every event was on an existing pin, clock and latch are not left high, and the pins keep the
directions CONFIGURE gave them. -/
def Obligations.InvStep : Prop :=
  ∀ s t : State, Inv s → step s = .next t → Inv t

/-! ### With the reference devices of D26 -/

/-- R122, D26: after the whole trace of WRITE, an OUT-chain of the configured width on the engine's three lines, with
distinct pins, shows the W low bits of OUTPUT_BUFFER, complemented if INVERT_OUTPUT. -/
def Obligations.OutChainShowsBuffer : Prop :=
  ∀ (s t : State) (d : OutChain), s.configured = true → s.widthBytes.toNat ≤ 4 →
    s.clockPin ≠ s.latchPin → s.dataOutPin ≠ s.clockPin → s.dataOutPin ≠ s.latchPin →
    d.width = bitWidth s → d.clockPin = s.clockPin → d.latchPin = s.latchPin → d.dataPin = s.dataOutPin →
    d.clock = false → d.latch = false → d.sr < 2 ^ d.width →
    exec .write s = .next t →
    (outChainRun d (issued s t)).q =
      (if s.invertOutput then ~~~s.outputBuffer else s.outputBuffer).toNat % 2 ^ bitWidth s

/-- R142, R143, D26: if the GPIO environment is an IN-chain of the configured width with parallel inputs P, READ leaves
P in INPUT_BUFFER. -/
def Obligations.InChainCaptured : Prop :=
  ∀ (s t : State) (d : InChain), s.configured = true → s.widthBytes.toNat ≤ 4 → s.clockPin ≠ s.latchPin →
    d.width = bitWidth s → d.clockPin = s.clockPin → d.latchPin = s.latchPin → d.dataPin = s.dataInPin →
    d.clock = false → d.latch = false → d.inputs < 2 ^ d.width →
    exec .read s = .next t → inChainAgrees d (issued s t) = true →
    t.inputBuffer.toNat = d.inputs

/-- R163, D26: after one hybrid cycle the OUT-chain shows the pre-cycle OUTPUT_BUFFER (complemented if INVERT_OUTPUT) and
INPUT_BUFFER holds the IN-chain's parallel inputs. -/
def Obligations.HybridCycle : Prop :=
  ∀ (s t : State) (d : OutChain) (e : InChain), s.configured = true → s.widthBytes.toNat ≤ 4 →
    s.clockPin ≠ s.latchPin → s.dataOutPin ≠ s.clockPin → s.dataOutPin ≠ s.latchPin →
    d.width = bitWidth s → d.clockPin = s.clockPin → d.latchPin = s.latchPin → d.dataPin = s.dataOutPin →
    d.clock = false → d.latch = false → d.sr < 2 ^ d.width →
    e.width = bitWidth s → e.clockPin = s.clockPin → e.latchPin = s.latchPin → e.dataPin = s.dataInPin →
    e.clock = false → e.latch = false → e.inputs < 2 ^ e.width →
    exec .readWrite s = .next t → inChainAgrees e (issued s t) = true →
    (outChainRun d (issued s t)).q =
      (if s.invertOutput then ~~~s.outputBuffer else s.outputBuffer).toNat % 2 ^ bitWidth s ∧
    t.inputBuffer.toNat = e.inputs ∧ t.outputBuffer = s.outputBuffer

/-! ### Several instances -/

/-- R275: a step of one instance is that instance's own step and leaves every other instance as it is; the configured
instances' pins stay disjoint; a system in which two configured instances share a pin is refused. Which pins an
instance uses is the model's choice where a data pin is 0 (log 16): it uses pin 0 once it has issued an event to it.
That its free samples come from a stream of its own is the model's choice too (log 7). -/
def Obligations.InstancesIsolated : Prop :=
  (∀ (k : Nat) (sys sys' : List State), systemStep k sys = .next sys' →
    sys'.length = sys.length ∧ pinsDisjoint sys' = true ∧ (∀ j, j ≠ k → sys'[j]? = sys[j]?) ∧
    (∀ s, sys[k]? = some s → ∃ t, step (s.withEnv k) = .next t ∧ sys'[k]? = some t)) ∧
  (∀ (k : Nat) (sys : List State) (i j : Nat) (a b : State) (p : PinId), i ≠ j → sys[i]? = some a → sys[j]? = some b →
    a.configured = true → b.configured = true → p ∈ usedPins a → p ∈ usedPins b →
    systemStep k sys = .refused .sharedPins) ∧
  (∀ (s : State) (p : PinId),
    (p = s.clockPin ∨ p = s.latchPin ∨ (p ∈ [s.dataInPin, s.dataOutPin] ∧ p ≠ 0#8) ∨
      ∃ e ∈ s.trace, eventPin e = some p) → p ∈ usedPins s)
end

