-- ==== Sys2Proof/Laws/Decode.lean ====
section
/-! SUPPORT. The command word's fields, and the words the well-formedness check and the decoder agree on. -/

namespace Sys2Proof

theorem commandWord_toNat (opc : BitVec 8) (arg : BitVec 24) :
    (commandWord opc arg).toNat = arg.toNat * 256 + opc.toNat := by
  have h : (commandWord opc arg).toNat = (arg ++ opc).toNat := rfl
  rw [h, BitVec.toNat_append,
    ← Nat.shiftLeft_add_eq_or_of_lt opc.isLt, Nat.shiftLeft_eq]

theorem commandOpc_toNat (w : Word) : (commandOpc w).toNat = w.toNat % 256 := by
  simp [commandOpc, BitVec.extractLsb'_toNat]

theorem commandArg_toNat (w : Word) : (commandArg w).toNat = w.toNat / 256 := by
  have := w.isLt
  simp [commandArg, BitVec.extractLsb'_toNat, Nat.shiftRight_eq_div_pow]
  omega

@[simp] theorem commandOpc_commandWord (opc : BitVec 8) (arg : BitVec 24) :
    commandOpc (commandWord opc arg) = opc := by
  have := opc.isLt
  apply BitVec.eq_of_toNat_eq
  rw [commandOpc_toNat, commandWord_toNat]
  omega

@[simp] theorem commandArg_commandWord (opc : BitVec 8) (arg : BitVec 24) :
    commandArg (commandWord opc arg) = arg := by
  have := opc.isLt
  apply BitVec.eq_of_toNat_eq
  rw [commandArg_toNat, commandWord_toNat]
  omega

/-- A command word is its two fields. -/
theorem commandWord_fields (w : Word) : commandWord (commandOpc w) (commandArg w) = w := by
  apply BitVec.eq_of_toNat_eq
  rw [commandWord_toNat, commandOpc_toNat, commandArg_toNat]
  omega

/-- The words that select a command are those WellFormed calls legal. -/
theorem decodeCommand_isSome (w : Word) : (decodeCommand w).isSome = legalCommandWord w := by
  have ho := commandOpc_toNat w
  have ha := commandArg_toNat w
  have h8 : commandOpc w = 0x08#8 ↔ (commandOpc w).toNat = 8 := by simp [BitVec.toNat_eq]
  have h0 : commandArg w = 0#24 ↔ (commandArg w).toNat = 0 := by simp [BitVec.toNat_eq]
  have hl := (commandOpc w).isLt
  simp only [decodeCommand, legalCommandWord, h8, h0]
  rw [ha, ho] at *
  by_cases c8 : w.toNat % 256 = 8
  · simp [c8]
  · by_cases c0 : w.toNat / 256 = 0
    · simp only [c8, c0]
      generalize w.toNat % 256 = o at *
      interval_cases o <;> simp_all
    · simp [c8, c0]

end Sys2Proof
end

