-- ==== Sys2Proof/Laws/State.lean ====
section
/-! SUPPORT. For each named update of State, what each field reads after it. -/

namespace Sys2Proof.Machine

@[simp] theorem State.emit_configured (s : State) (es : List Event) : (s.emit es).configured = s.configured := rfl
@[simp] theorem State.emit_errCode (s : State) (es : List Event) : (s.emit es).errCode = s.errCode := rfl
@[simp] theorem State.emit_mode (s : State) (es : List Event) : (s.emit es).mode = s.mode := rfl
@[simp] theorem State.emit_widthBytes (s : State) (es : List Event) : (s.emit es).widthBytes = s.widthBytes := rfl
@[simp] theorem State.emit_clockPin (s : State) (es : List Event) : (s.emit es).clockPin = s.clockPin := rfl
@[simp] theorem State.emit_dataInPin (s : State) (es : List Event) : (s.emit es).dataInPin = s.dataInPin := rfl
@[simp] theorem State.emit_dataOutPin (s : State) (es : List Event) : (s.emit es).dataOutPin = s.dataOutPin := rfl
@[simp] theorem State.emit_latchPin (s : State) (es : List Event) : (s.emit es).latchPin = s.latchPin := rfl
@[simp] theorem State.emit_clockEdgeDelay (s : State) (es : List Event) : (s.emit es).clockEdgeDelay = s.clockEdgeDelay := rfl
@[simp] theorem State.emit_latchPulseDelay (s : State) (es : List Event) : (s.emit es).latchPulseDelay = s.latchPulseDelay := rfl
@[simp] theorem State.emit_invertOutput (s : State) (es : List Event) : (s.emit es).invertOutput = s.invertOutput := rfl
@[simp] theorem State.emit_outputBuffer (s : State) (es : List Event) : (s.emit es).outputBuffer = s.outputBuffer := rfl
@[simp] theorem State.emit_inputBuffer (s : State) (es : List Event) : (s.emit es).inputBuffer = s.inputBuffer := rfl
@[simp] theorem State.emit_numGpio (s : State) (es : List Event) : (s.emit es).numGpio = s.numGpio := rfl
@[simp] theorem State.emit_trace (s : State) (es : List Event) : (s.emit es).trace = s.trace ++ es := rfl
@[simp] theorem State.emit_samples (s : State) (es : List Event) : (s.emit es).samples = s.samples := rfl
@[simp] theorem State.emit_draws (s : State) (es : List Event) : (s.emit es).draws = s.draws := rfl
@[simp] theorem State.emit_env (s : State) (es : List Event) : (s.emit es).env = s.env := rfl
@[simp] theorem State.emit_inputs (s : State) (es : List Event) : (s.emit es).inputs = s.inputs := rfl
@[simp] theorem State.emit_reads (s : State) (es : List Event) : (s.emit es).reads = s.reads := rfl

@[simp] theorem State.setInput_configured (s : State) (w : Word) : (s.setInput w).configured = s.configured := rfl
@[simp] theorem State.setInput_errCode (s : State) (w : Word) : (s.setInput w).errCode = s.errCode := rfl
@[simp] theorem State.setInput_mode (s : State) (w : Word) : (s.setInput w).mode = s.mode := rfl
@[simp] theorem State.setInput_widthBytes (s : State) (w : Word) : (s.setInput w).widthBytes = s.widthBytes := rfl
@[simp] theorem State.setInput_clockPin (s : State) (w : Word) : (s.setInput w).clockPin = s.clockPin := rfl
@[simp] theorem State.setInput_dataInPin (s : State) (w : Word) : (s.setInput w).dataInPin = s.dataInPin := rfl
@[simp] theorem State.setInput_dataOutPin (s : State) (w : Word) : (s.setInput w).dataOutPin = s.dataOutPin := rfl
@[simp] theorem State.setInput_latchPin (s : State) (w : Word) : (s.setInput w).latchPin = s.latchPin := rfl
@[simp] theorem State.setInput_clockEdgeDelay (s : State) (w : Word) : (s.setInput w).clockEdgeDelay = s.clockEdgeDelay := rfl
@[simp] theorem State.setInput_latchPulseDelay (s : State) (w : Word) : (s.setInput w).latchPulseDelay = s.latchPulseDelay := rfl
@[simp] theorem State.setInput_invertOutput (s : State) (w : Word) : (s.setInput w).invertOutput = s.invertOutput := rfl
@[simp] theorem State.setInput_outputBuffer (s : State) (w : Word) : (s.setInput w).outputBuffer = s.outputBuffer := rfl
@[simp] theorem State.setInput_inputBuffer (s : State) (w : Word) : (s.setInput w).inputBuffer = w := rfl
@[simp] theorem State.setInput_numGpio (s : State) (w : Word) : (s.setInput w).numGpio = s.numGpio := rfl
@[simp] theorem State.setInput_trace (s : State) (w : Word) : (s.setInput w).trace = s.trace := rfl
@[simp] theorem State.setInput_samples (s : State) (w : Word) : (s.setInput w).samples = s.samples := rfl
@[simp] theorem State.setInput_draws (s : State) (w : Word) : (s.setInput w).draws = s.draws := rfl
@[simp] theorem State.setInput_env (s : State) (w : Word) : (s.setInput w).env = s.env := rfl
@[simp] theorem State.setInput_inputs (s : State) (w : Word) : (s.setInput w).inputs = s.inputs := rfl
@[simp] theorem State.setInput_reads (s : State) (w : Word) : (s.setInput w).reads = s.reads := rfl

@[simp] theorem State.markConfigured_configured (s : State) : (s.markConfigured).configured = true := rfl
@[simp] theorem State.markConfigured_errCode (s : State) : (s.markConfigured).errCode = s.errCode := rfl
@[simp] theorem State.markConfigured_mode (s : State) : (s.markConfigured).mode = s.mode := rfl
@[simp] theorem State.markConfigured_widthBytes (s : State) : (s.markConfigured).widthBytes = s.widthBytes := rfl
@[simp] theorem State.markConfigured_clockPin (s : State) : (s.markConfigured).clockPin = s.clockPin := rfl
@[simp] theorem State.markConfigured_dataInPin (s : State) : (s.markConfigured).dataInPin = s.dataInPin := rfl
@[simp] theorem State.markConfigured_dataOutPin (s : State) : (s.markConfigured).dataOutPin = s.dataOutPin := rfl
@[simp] theorem State.markConfigured_latchPin (s : State) : (s.markConfigured).latchPin = s.latchPin := rfl
@[simp] theorem State.markConfigured_clockEdgeDelay (s : State) : (s.markConfigured).clockEdgeDelay = s.clockEdgeDelay := rfl
@[simp] theorem State.markConfigured_latchPulseDelay (s : State) : (s.markConfigured).latchPulseDelay = s.latchPulseDelay := rfl
@[simp] theorem State.markConfigured_invertOutput (s : State) : (s.markConfigured).invertOutput = s.invertOutput := rfl
@[simp] theorem State.markConfigured_outputBuffer (s : State) : (s.markConfigured).outputBuffer = s.outputBuffer := rfl
@[simp] theorem State.markConfigured_inputBuffer (s : State) : (s.markConfigured).inputBuffer = s.inputBuffer := rfl
@[simp] theorem State.markConfigured_numGpio (s : State) : (s.markConfigured).numGpio = s.numGpio := rfl
@[simp] theorem State.markConfigured_trace (s : State) : (s.markConfigured).trace = s.trace := rfl
@[simp] theorem State.markConfigured_samples (s : State) : (s.markConfigured).samples = s.samples := rfl
@[simp] theorem State.markConfigured_draws (s : State) : (s.markConfigured).draws = s.draws := rfl
@[simp] theorem State.markConfigured_env (s : State) : (s.markConfigured).env = s.env := rfl
@[simp] theorem State.markConfigured_inputs (s : State) : (s.markConfigured).inputs = s.inputs := rfl
@[simp] theorem State.markConfigured_reads (s : State) : (s.markConfigured).reads = s.reads := rfl

@[simp] theorem State.setErr_configured (s : State) (e : ErrCode) : (s.setErr e).configured = s.configured := rfl
@[simp] theorem State.setErr_errCode (s : State) (e : ErrCode) : (s.setErr e).errCode = e := rfl
@[simp] theorem State.setErr_mode (s : State) (e : ErrCode) : (s.setErr e).mode = s.mode := rfl
@[simp] theorem State.setErr_widthBytes (s : State) (e : ErrCode) : (s.setErr e).widthBytes = s.widthBytes := rfl
@[simp] theorem State.setErr_clockPin (s : State) (e : ErrCode) : (s.setErr e).clockPin = s.clockPin := rfl
@[simp] theorem State.setErr_dataInPin (s : State) (e : ErrCode) : (s.setErr e).dataInPin = s.dataInPin := rfl
@[simp] theorem State.setErr_dataOutPin (s : State) (e : ErrCode) : (s.setErr e).dataOutPin = s.dataOutPin := rfl
@[simp] theorem State.setErr_latchPin (s : State) (e : ErrCode) : (s.setErr e).latchPin = s.latchPin := rfl
@[simp] theorem State.setErr_clockEdgeDelay (s : State) (e : ErrCode) : (s.setErr e).clockEdgeDelay = s.clockEdgeDelay := rfl
@[simp] theorem State.setErr_latchPulseDelay (s : State) (e : ErrCode) : (s.setErr e).latchPulseDelay = s.latchPulseDelay := rfl
@[simp] theorem State.setErr_invertOutput (s : State) (e : ErrCode) : (s.setErr e).invertOutput = s.invertOutput := rfl
@[simp] theorem State.setErr_outputBuffer (s : State) (e : ErrCode) : (s.setErr e).outputBuffer = s.outputBuffer := rfl
@[simp] theorem State.setErr_inputBuffer (s : State) (e : ErrCode) : (s.setErr e).inputBuffer = s.inputBuffer := rfl
@[simp] theorem State.setErr_numGpio (s : State) (e : ErrCode) : (s.setErr e).numGpio = s.numGpio := rfl
@[simp] theorem State.setErr_trace (s : State) (e : ErrCode) : (s.setErr e).trace = s.trace := rfl
@[simp] theorem State.setErr_samples (s : State) (e : ErrCode) : (s.setErr e).samples = s.samples := rfl
@[simp] theorem State.setErr_draws (s : State) (e : ErrCode) : (s.setErr e).draws = s.draws := rfl
@[simp] theorem State.setErr_env (s : State) (e : ErrCode) : (s.setErr e).env = s.env := rfl
@[simp] theorem State.setErr_inputs (s : State) (e : ErrCode) : (s.setErr e).inputs = s.inputs := rfl
@[simp] theorem State.setErr_reads (s : State) (e : ErrCode) : (s.setErr e).reads = s.reads := rfl

@[simp] theorem State.answerRead_configured (s : State) (v : Word) : (s.answerRead v).configured = s.configured := rfl
@[simp] theorem State.answerRead_errCode (s : State) (v : Word) : (s.answerRead v).errCode = s.errCode := rfl
@[simp] theorem State.answerRead_mode (s : State) (v : Word) : (s.answerRead v).mode = s.mode := rfl
@[simp] theorem State.answerRead_widthBytes (s : State) (v : Word) : (s.answerRead v).widthBytes = s.widthBytes := rfl
@[simp] theorem State.answerRead_clockPin (s : State) (v : Word) : (s.answerRead v).clockPin = s.clockPin := rfl
@[simp] theorem State.answerRead_dataInPin (s : State) (v : Word) : (s.answerRead v).dataInPin = s.dataInPin := rfl
@[simp] theorem State.answerRead_dataOutPin (s : State) (v : Word) : (s.answerRead v).dataOutPin = s.dataOutPin := rfl
@[simp] theorem State.answerRead_latchPin (s : State) (v : Word) : (s.answerRead v).latchPin = s.latchPin := rfl
@[simp] theorem State.answerRead_clockEdgeDelay (s : State) (v : Word) : (s.answerRead v).clockEdgeDelay = s.clockEdgeDelay := rfl
@[simp] theorem State.answerRead_latchPulseDelay (s : State) (v : Word) : (s.answerRead v).latchPulseDelay = s.latchPulseDelay := rfl
@[simp] theorem State.answerRead_invertOutput (s : State) (v : Word) : (s.answerRead v).invertOutput = s.invertOutput := rfl
@[simp] theorem State.answerRead_outputBuffer (s : State) (v : Word) : (s.answerRead v).outputBuffer = s.outputBuffer := rfl
@[simp] theorem State.answerRead_inputBuffer (s : State) (v : Word) : (s.answerRead v).inputBuffer = s.inputBuffer := rfl
@[simp] theorem State.answerRead_numGpio (s : State) (v : Word) : (s.answerRead v).numGpio = s.numGpio := rfl
@[simp] theorem State.answerRead_trace (s : State) (v : Word) : (s.answerRead v).trace = s.trace := rfl
@[simp] theorem State.answerRead_samples (s : State) (v : Word) : (s.answerRead v).samples = s.samples := rfl
@[simp] theorem State.answerRead_draws (s : State) (v : Word) : (s.answerRead v).draws = s.draws := rfl
@[simp] theorem State.answerRead_env (s : State) (v : Word) : (s.answerRead v).env = s.env := rfl
@[simp] theorem State.answerRead_inputs (s : State) (v : Word) : (s.answerRead v).inputs = s.inputs := rfl
@[simp] theorem State.answerRead_reads (s : State) (v : Word) : (s.answerRead v).reads = s.reads ++ [v] := rfl

@[simp] theorem State.dropInput_configured (s : State) : (s.dropInput).configured = s.configured := rfl
@[simp] theorem State.dropInput_errCode (s : State) : (s.dropInput).errCode = s.errCode := rfl
@[simp] theorem State.dropInput_mode (s : State) : (s.dropInput).mode = s.mode := rfl
@[simp] theorem State.dropInput_widthBytes (s : State) : (s.dropInput).widthBytes = s.widthBytes := rfl
@[simp] theorem State.dropInput_clockPin (s : State) : (s.dropInput).clockPin = s.clockPin := rfl
@[simp] theorem State.dropInput_dataInPin (s : State) : (s.dropInput).dataInPin = s.dataInPin := rfl
@[simp] theorem State.dropInput_dataOutPin (s : State) : (s.dropInput).dataOutPin = s.dataOutPin := rfl
@[simp] theorem State.dropInput_latchPin (s : State) : (s.dropInput).latchPin = s.latchPin := rfl
@[simp] theorem State.dropInput_clockEdgeDelay (s : State) : (s.dropInput).clockEdgeDelay = s.clockEdgeDelay := rfl
@[simp] theorem State.dropInput_latchPulseDelay (s : State) : (s.dropInput).latchPulseDelay = s.latchPulseDelay := rfl
@[simp] theorem State.dropInput_invertOutput (s : State) : (s.dropInput).invertOutput = s.invertOutput := rfl
@[simp] theorem State.dropInput_outputBuffer (s : State) : (s.dropInput).outputBuffer = s.outputBuffer := rfl
@[simp] theorem State.dropInput_inputBuffer (s : State) : (s.dropInput).inputBuffer = s.inputBuffer := rfl
@[simp] theorem State.dropInput_numGpio (s : State) : (s.dropInput).numGpio = s.numGpio := rfl
@[simp] theorem State.dropInput_trace (s : State) : (s.dropInput).trace = s.trace := rfl
@[simp] theorem State.dropInput_samples (s : State) : (s.dropInput).samples = s.samples := rfl
@[simp] theorem State.dropInput_draws (s : State) : (s.dropInput).draws = s.draws := rfl
@[simp] theorem State.dropInput_env (s : State) : (s.dropInput).env = s.env := rfl
@[simp] theorem State.dropInput_inputs (s : State) : (s.dropInput).inputs = s.inputs.tail := rfl
@[simp] theorem State.dropInput_reads (s : State) : (s.dropInput).reads = s.reads := rfl

@[simp] theorem State.takeLevel_configured (s : State) : s.takeLevel.configured = s.configured := by
  unfold State.takeLevel; split <;> rfl
@[simp] theorem State.takeLevel_errCode (s : State) : s.takeLevel.errCode = s.errCode := by
  unfold State.takeLevel; split <;> rfl
@[simp] theorem State.takeLevel_mode (s : State) : s.takeLevel.mode = s.mode := by
  unfold State.takeLevel; split <;> rfl
@[simp] theorem State.takeLevel_widthBytes (s : State) : s.takeLevel.widthBytes = s.widthBytes := by
  unfold State.takeLevel; split <;> rfl
@[simp] theorem State.takeLevel_clockPin (s : State) : s.takeLevel.clockPin = s.clockPin := by
  unfold State.takeLevel; split <;> rfl
@[simp] theorem State.takeLevel_dataInPin (s : State) : s.takeLevel.dataInPin = s.dataInPin := by
  unfold State.takeLevel; split <;> rfl
@[simp] theorem State.takeLevel_dataOutPin (s : State) : s.takeLevel.dataOutPin = s.dataOutPin := by
  unfold State.takeLevel; split <;> rfl
@[simp] theorem State.takeLevel_latchPin (s : State) : s.takeLevel.latchPin = s.latchPin := by
  unfold State.takeLevel; split <;> rfl
@[simp] theorem State.takeLevel_clockEdgeDelay (s : State) : s.takeLevel.clockEdgeDelay = s.clockEdgeDelay := by
  unfold State.takeLevel; split <;> rfl
@[simp] theorem State.takeLevel_latchPulseDelay (s : State) : s.takeLevel.latchPulseDelay = s.latchPulseDelay := by
  unfold State.takeLevel; split <;> rfl
@[simp] theorem State.takeLevel_invertOutput (s : State) : s.takeLevel.invertOutput = s.invertOutput := by
  unfold State.takeLevel; split <;> rfl
@[simp] theorem State.takeLevel_outputBuffer (s : State) : s.takeLevel.outputBuffer = s.outputBuffer := by
  unfold State.takeLevel; split <;> rfl
@[simp] theorem State.takeLevel_inputBuffer (s : State) : s.takeLevel.inputBuffer = s.inputBuffer := by
  unfold State.takeLevel; split <;> rfl
@[simp] theorem State.takeLevel_numGpio (s : State) : s.takeLevel.numGpio = s.numGpio := by
  unfold State.takeLevel; split <;> rfl
@[simp] theorem State.takeLevel_env (s : State) : s.takeLevel.env = s.env := by
  unfold State.takeLevel; split <;> rfl
@[simp] theorem State.takeLevel_trace (s : State) : s.takeLevel.trace = s.trace := by
  unfold State.takeLevel; split <;> rfl
@[simp] theorem State.takeLevel_inputs (s : State) : s.takeLevel.inputs = s.inputs := by
  unfold State.takeLevel; split <;> rfl
@[simp] theorem State.takeLevel_reads (s : State) : s.takeLevel.reads = s.reads := by
  unfold State.takeLevel; split <;> rfl

@[simp] theorem State.takeLevel_samples (s : State) : s.takeLevel.samples = s.samples.drop 1 := by
  unfold State.takeLevel; split <;> simp [*]

@[simp] theorem State.takeLevel_draws (s : State) :
    s.takeLevel.draws = s.draws + (1 - s.samples.length) := by
  unfold State.takeLevel; split <;> simp [*]

@[simp] theorem State.withEnv_configured (s : State) (k : Nat) : (s.withEnv k).configured = s.configured := rfl
@[simp] theorem State.withEnv_errCode (s : State) (k : Nat) : (s.withEnv k).errCode = s.errCode := rfl
@[simp] theorem State.withEnv_mode (s : State) (k : Nat) : (s.withEnv k).mode = s.mode := rfl
@[simp] theorem State.withEnv_widthBytes (s : State) (k : Nat) : (s.withEnv k).widthBytes = s.widthBytes := rfl
@[simp] theorem State.withEnv_clockPin (s : State) (k : Nat) : (s.withEnv k).clockPin = s.clockPin := rfl
@[simp] theorem State.withEnv_dataInPin (s : State) (k : Nat) : (s.withEnv k).dataInPin = s.dataInPin := rfl
@[simp] theorem State.withEnv_dataOutPin (s : State) (k : Nat) : (s.withEnv k).dataOutPin = s.dataOutPin := rfl
@[simp] theorem State.withEnv_latchPin (s : State) (k : Nat) : (s.withEnv k).latchPin = s.latchPin := rfl
@[simp] theorem State.withEnv_clockEdgeDelay (s : State) (k : Nat) : (s.withEnv k).clockEdgeDelay = s.clockEdgeDelay := rfl
@[simp] theorem State.withEnv_latchPulseDelay (s : State) (k : Nat) : (s.withEnv k).latchPulseDelay = s.latchPulseDelay := rfl
@[simp] theorem State.withEnv_invertOutput (s : State) (k : Nat) : (s.withEnv k).invertOutput = s.invertOutput := rfl
@[simp] theorem State.withEnv_outputBuffer (s : State) (k : Nat) : (s.withEnv k).outputBuffer = s.outputBuffer := rfl
@[simp] theorem State.withEnv_inputBuffer (s : State) (k : Nat) : (s.withEnv k).inputBuffer = s.inputBuffer := rfl
@[simp] theorem State.withEnv_numGpio (s : State) (k : Nat) : (s.withEnv k).numGpio = s.numGpio := rfl
@[simp] theorem State.withEnv_trace (s : State) (k : Nat) : (s.withEnv k).trace = s.trace := rfl
@[simp] theorem State.withEnv_samples (s : State) (k : Nat) : (s.withEnv k).samples = s.samples := rfl
@[simp] theorem State.withEnv_draws (s : State) (k : Nat) : (s.withEnv k).draws = s.draws := rfl
@[simp] theorem State.withEnv_env (s : State) (k : Nat) : (s.withEnv k).env = k := rfl
@[simp] theorem State.withEnv_inputs (s : State) (k : Nat) : (s.withEnv k).inputs = s.inputs := rfl
@[simp] theorem State.withEnv_reads (s : State) (k : Nat) : (s.withEnv k).reads = s.reads := rfl

/-- Two states are equal when every field is. -/
theorem State.ext_fields {s t : State}
    (h_configured : s.configured = t.configured)
    (h_errCode : s.errCode = t.errCode)
    (h_mode : s.mode = t.mode)
    (h_widthBytes : s.widthBytes = t.widthBytes)
    (h_clockPin : s.clockPin = t.clockPin)
    (h_dataInPin : s.dataInPin = t.dataInPin)
    (h_dataOutPin : s.dataOutPin = t.dataOutPin)
    (h_latchPin : s.latchPin = t.latchPin)
    (h_clockEdgeDelay : s.clockEdgeDelay = t.clockEdgeDelay)
    (h_latchPulseDelay : s.latchPulseDelay = t.latchPulseDelay)
    (h_invertOutput : s.invertOutput = t.invertOutput)
    (h_outputBuffer : s.outputBuffer = t.outputBuffer)
    (h_inputBuffer : s.inputBuffer = t.inputBuffer)
    (h_numGpio : s.numGpio = t.numGpio)
    (h_trace : s.trace = t.trace)
    (h_samples : s.samples = t.samples)
    (h_draws : s.draws = t.draws)
    (h_env : s.env = t.env)
    (h_inputs : s.inputs = t.inputs)
    (h_reads : s.reads = t.reads) : s = t := by
  cases s; cases t; simp_all

end Sys2Proof.Machine
end

