-- ==== Sys2Proof/Laws/Ops.lean ====
section
/-! SUPPORT. What each shared operation does, said once: the loops in closed form, and the cases of a command's
end. -/

namespace Sys2Proof.Machine

/-! ### Events -/

@[simp] theorem emit_nil (s : State) : s.emit [] = s := by simp [State.emit]

@[simp] theorem emit_emit (s : State) (a b : List Event) : (s.emit a).emit b = s.emit (a ++ b) := by
  simp [State.emit]

theorem clockPulse_eq (s : State) : clockPulse s = s.emit (cpTrace s) := by
  simp [clockPulse, gpioDrive, hold, cpTrace]

theorem latchRaise_eq (s : State) : latchRaise s = s.emit [.drive s.latchPin true] := rfl

theorem latchLower_eq (s : State) : latchLower s = s.emit [.drive s.latchPin false] := rfl

theorem latchPulse_eq (s : State) : latchPulse s = s.emit (lpTrace s) := by
  simp [latchPulse, latchLower, latchRaise, gpioDrive, hold, lpTrace]

@[simp] theorem cpTrace_emit (s : State) (es : List Event) : cpTrace (s.emit es) = cpTrace s := rfl

@[simp] theorem lpTrace_emit (s : State) (es : List Event) : lpTrace (s.emit es) = lpTrace s := rfl

@[simp] theorem bitWidth_emit (s : State) (es : List Event) : bitWidth (s.emit es) = bitWidth s := rfl

@[simp] theorem answer_emit (s : State) (es : List Event) : answer (s.emit es) = answer s := rfl

@[simp] theorem outTrace_emit (bit : Nat → Level) (s : State) (es : List Event) :
    outTrace bit (s.emit es) = outTrace bit s := rfl

@[simp] theorem answers_emit (s : State) (es : List Event) : answers (s.emit es) = answers s := rfl

@[simp] theorem answers_length (s : State) : (answers s).length = bitWidth s := by simp [answers]

@[simp] theorem inTrace_emit (s : State) (es : List Event) : inTrace (s.emit es) = inTrace s := rfl

@[simp] theorem writeTrace_emit (s : State) (es : List Event) : writeTrace (s.emit es) = writeTrace s := rfl

@[simp] theorem readTrace_emit (s : State) (es : List Event) : readTrace (s.emit es) = readTrace s := rfl

@[simp] theorem hybridTrace_emit (s : State) (es : List Event) : hybridTrace (s.emit es) = hybridTrace s := rfl

@[simp] theorem transferTrace_emit (s : State) (es : List Event) :
    transferTrace (s.emit es) = transferTrace s := rfl

@[simp] theorem captured_emit (s : State) (es : List Event) : captured (s.emit es) = (captured s).emit es := rfl

@[simp] theorem afterTransfer_emit (s : State) (es : List Event) :
    afterTransfer (s.emit es) = (afterTransfer s).emit es := by
  have h : (s.emit es).mode = s.mode := rfl
  unfold afterTransfer; rw [h]; cases s.mode <;> rfl

@[simp] theorem cpTrace_setInput (s : State) (w : Word) : cpTrace (s.setInput w) = cpTrace s := rfl

/-! ### The serial-out loop -/

/-- The loop issues, for `i` from `n-1` down to 0, the data drive and the clock pulse, and changes nothing else. -/
theorem shiftBits_eq (bit : Nat → Level) (n : Nat) (s : State) :
    shiftBits bit n s = s.emit ((List.range n).reverse.flatMap
      (fun i => .drive s.dataOutPin (bit i ^^ s.invertOutput) :: cpTrace s)) := by
  induction n generalizing s with
  | zero => simp [shiftBits]
  | succ n ih =>
    simp only [shiftBits, ih, clockPulse_eq, gpioDrive]
    simp [List.range_succ]

theorem shiftOut_eq (v : Word) (s : State) : shiftOut v s = s.emit (outTrace (fun i => v.getLsbD i) s) := by
  simp [shiftOut, shiftBits_eq, outTrace, valueBit]

/-! ### The serial-in loop -/

theorem nextLevel_eq_answer (s : State) : nextLevel s.dataInPin s = answer s 0 := by
  unfold nextLevel answer; cases s.samples <;> simp

/-- The answers to come after one sample are those that were to come, less the first. -/
theorem answer_succ (s t : State) (hs : t.samples = s.samples.drop 1)
    (hd : t.draws = s.draws + (1 - s.samples.length)) (hp : t.dataInPin = s.dataInPin)
    (he : t.env = s.env) (k : Nat) :
    answer t k = answer s (k + 1) := by
  unfold answer
  rw [hp, hd, he]
  cases h : s.samples with
  | nil => simp [hs, h, Nat.add_comm, Nat.add_left_comm]
  | cons l rest => simp [hs, h, Nat.add_sub_add_right]

/-- The word `n` bit positions leave: the old one shifted out, the answers shifted in. -/
def shiftedIn (s : State) (w : Word) (n : Nat) : Word :=
  w <<< n + ((List.range n).map (fun k => zextLevel (answer s k) <<< (n - 1 - k))).sum

theorem shiftLevelIn_eq_add (w : Word) (l : Level) : shiftLevelIn w l = w <<< 1 + zextLevel l := by
  unfold shiftLevelIn zextLevel
  cases l <;> simp
  rw [← BitVec.add_eq_or_of_and_eq_zero]
  ext i hi
  cases i <;> simp

/-- One bit position, in closed form. -/
theorem shiftInBit_eq (s : State) :
    shiftInBit s = (s.takeLevel.setInput (shiftLevelIn s.inputBuffer (answer s 0))).emit
      (.sample s.dataInPin (answer s 0) :: cpTrace s) := by
  have h : cpTrace s.takeLevel = cpTrace s := by simp [cpTrace]
  simp only [shiftInBit, gpioSample, nextLevel_eq_answer, clockPulse_eq, State.emit_inputBuffer,
    State.takeLevel_inputBuffer, cpTrace_setInput, cpTrace_emit, h]
  simp [State.emit, State.setInput]

/-- `n` bit positions, in closed form: what they issue, and what they leave in INPUT_BUFFER and of the answers. -/
theorem shiftInLoop_eq (n : Nat) (s : State) :
    shiftInLoop n s =
      { s with
        inputBuffer := shiftedIn s s.inputBuffer n
        samples := s.samples.drop n
        draws := s.draws + (n - s.samples.length)
        trace := s.trace ++ (List.range n).flatMap
          (fun k => .sample s.dataInPin (answer s k) :: cpTrace s) } := by
  induction n generalizing s with
  | zero => simp [shiftInLoop, shiftedIn]
  | succ n ih =>
    have hans (k : Nat) : answer (shiftInBit s) k = answer s (k + 1) :=
      answer_succ s _ (by simp [shiftInBit_eq]) (by simp [shiftInBit_eq]) (by simp [shiftInBit_eq])
        (by simp [shiftInBit_eq]) k
    have hcp : cpTrace (shiftInBit s) = cpTrace s := by simp [shiftInBit_eq, cpTrace]
    rw [shiftInLoop, ih]
    simp only [hcp, shiftedIn, hans]
    apply State.ext_fields <;>
      simp [shiftInBit_eq, List.range_succ_eq_map, List.flatMap_map, List.map_map, Function.comp_def,
        shiftLevelIn_eq_add]
    · simp [← BitVec.shiftLeft_add, Nat.add_comm 1 n, BitVec.add_assoc, Nat.sub_sub, Nat.add_comm]
    · omega

/-- The sum of R143 over the answers to come. -/
theorem captureSum_answers (s : State) :
    captureSum (answers s) =
      ((List.range (bitWidth s)).map (fun k => zextLevel (answer s k) <<< (bitWidth s - 1 - k))).sum := by
  simp only [captureSum, answers_length]
  congr 1
  apply List.map_congr_left
  intro k hk
  have hk' : k < bitWidth s := by simpa using hk
  simp [answers, hk']

theorem shiftIn_eq (s : State) :
    shiftIn s = (captured s).emit (inTrace s (answers s)) := by
  have h (k : Nat) : answer (s.setInput 0#32) k = answer s k := rfl
  simp [shiftIn, shiftInLoop_eq, captured, inTrace, answers, State.emit, shiftedIn, h, List.flatMap_map,
    ← captureSum_answers]

/-! ### Transfers and construction -/

theorem writeTransfer_eq (s : State) : writeTransfer s = s.emit (writeTrace s) := by
  simp [writeTransfer, shiftOut_eq, latchPulse_eq, writeTrace]

theorem readTransfer_eq (s : State) : readTransfer s = (captured s).emit (readTrace s (answers s)) := by
  have hl : (captured s).latchPin = s.latchPin := rfl
  simp [readTransfer, latchRaise_eq, shiftIn_eq, latchLower_eq, readTrace, hl]

theorem hybridTransfer_eq (s : State) : hybridTransfer s = (captured s).emit (hybridTrace s (answers s)) := by
  have h : hybridTransfer s = readTransfer (shiftOut s.outputBuffer s) := rfl
  simp [h, readTransfer_eq, shiftOut_eq, hybridTrace]

theorem transferByMode_eq (s : State) : transferByMode s = (afterTransfer s).emit (transferTrace s (answers s)) := by
  unfold transferByMode afterTransfer transferTrace
  cases s.mode <;> simp [writeTransfer_eq, readTransfer_eq, hybridTransfer_eq]

/-- The transfer MODE selects changes, beside the trace, at most INPUT_BUFFER and what answers are left. -/
theorem afterTransfer_frame (s : State) :
    afterTransfer s =
      { s with
        inputBuffer := (afterTransfer s).inputBuffer
        samples := (afterTransfer s).samples
        draws := (afterTransfer s).draws } := by
  unfold afterTransfer; split <;> rfl

theorem fillTransfer_eq (arg : BitVec 24) (s : State) :
    fillTransfer (fillBit arg) s = s.emit (fillTrace arg s) := by
  have h : fillBit arg = decide (arg.toNat ≠ 0) := by
    rw [fillBit, bne, beq_eq_decide, ← decide_not]
    apply decide_eq_decide.mpr
    have := arg.isLt
    simp [BitVec.toNat_eq]
    omega
  simp [fillTransfer, shiftBits_eq, latchPulse_eq, fillTrace, outTrace, h]

theorem ifWired_emit (p : PinId) (e : Event) (s : State) :
    ifWired p (fun t => t.emit [e]) s = s.emit (wiredEvent p e) := by
  have h : p = 0#8 ↔ p.toNat = 0 := by simp [BitVec.toNat_eq]
  unfold ifWired wiredEvent
  by_cases hp : p = 0#8 <;> simp [← h, hp]

theorem setUp_eq (s : State) : driveOutputsLow (setUpDirections s) = s.emit (setUpTrace s) := by
  have hd (p : PinId) (d : PinDir) (t : State) :
      ifWired p (gpioSetDir p d) t = t.emit (wiredEvent p (.setDir p d)) := ifWired_emit p _ t
  have hl (p : PinId) (l : Level) (t : State) :
      ifWired p (gpioDrive p l) t = t.emit (wiredEvent p (.drive p l)) := ifWired_emit p _ t
  simp [driveOutputsLow, setUpDirections, hd, hl, setUpTrace]

/-- CONFIGURE's work: CONFIGURED set, INPUT_BUFFER cleared or captured, the set-up and one transfer issued. -/
theorem construct_eq (s : State) :
    construct s = (afterTransfer { s with configured := true, inputBuffer := 0#32 }).emit
      (setUpTrace s ++ transferTrace s (answers s)) := by
  have h : (s.emit (setUpTrace s)).markConfigured.setInput 0#32 =
      ({ s with configured := true, inputBuffer := 0#32 } : State).emit (setUpTrace s) := rfl
  have ht : transferTrace { s with configured := true, inputBuffer := 0#32 } = transferTrace s := rfl
  have ha : answers { s with configured := true, inputBuffer := 0#32 } = answers s := rfl
  simp [construct, setUp_eq, h, transferByMode_eq, ht, ha]

/-! ### The end of a command -/

theorem pinExists_iff (n : Nat) (p : PinId) : pinExists n p = true ↔ p.toNat < n := by
  simp [pinExists]; omega

theorem eventPinExists_iff (n : Nat) (e : Event) :
    eventPinExists n e = true ↔ ∀ p ∈ eventPin e, p.toNat < n := by
  cases e <;> simp [eventPinExists, eventPin, pinExists_iff]

theorem issued_eq {s t : State} {es : List Event} (h : t.trace = s.trace ++ es) : issued s t = es := by
  simp [issued, h]

/-- A command whose events are all on pins that exist ends with code 0. -/
theorem commit_next {s : State} {f : State → State} {es : List Event} (h : (f s).trace = s.trace ++ es)
    (hp : ∀ e ∈ es, eventPinExists s.numGpio e = true) : commit s f = .next ((f s).setErr .ok) := by
  have hn : (issued s (f s)).find? (fun e => !eventPinExists s.numGpio e) = none := by
    simpa [issued_eq h] using hp
  simp [commit, hn]

/-- A command ends with code 0 and all its events on pins that exist, or is refused for a pin that does not. -/
theorem commit_cases (s : State) (f : State → State) :
    (commit s f = .next ((f s).setErr .ok) ∧ ∀ e ∈ issued s (f s), eventPinExists s.numGpio e = true) ∨
    (∃ e ∈ issued s (f s), ∃ p, eventPin e = some p ∧ s.numGpio ≤ p.toNat ∧
      commit s f = .refused (.noSuchPin p)) := by
  unfold commit
  cases h : (issued s (f s)).find? (fun e => !eventPinExists s.numGpio e) with
  | none => left; simpa using h
  | some e =>
    right
    have hm := List.mem_of_find?_eq_some h
    have hb : ¬ eventPinExists s.numGpio e = true := by simpa using List.find?_some h
    rw [eventPinExists_iff] at hb
    push Not at hb
    obtain ⟨p, hp, hlt⟩ := hb
    exact ⟨e, hm, p, hp, hlt, by simp [show eventPin e = some p from hp]⟩

/-- If a command's end answers a next state, it is the work's, with code 0, and every event was on a pin that exists. -/
theorem commit_inv {s t : State} {f : State → State} (h : commit s f = .next t) :
    t = (f s).setErr .ok ∧ ∀ e ∈ issued s (f s), eventPinExists s.numGpio e = true := by
  rcases commit_cases s f with ⟨h', he⟩ | ⟨_, _, _, _, _, h'⟩ <;> rw [h'] at h
  · exact ⟨(Host.Outcome.next.inj h).symm, he⟩
  · cases h

/-- What a command other than CONFIGURE can do. -/
theorem runConfigured_cases (f : State → State) (s : State) :
    (s.configured = false ∧ runConfigured f s = .next (s.setErr .notConfigured)) ∨
    (s.configured = true ∧ runConfigured f s = commit s f) := by
  cases h : s.configured <;> simp [runConfigured, raiseError, h]

/-- If a command other than CONFIGURE answers a next state, it raised NOT_CONFIGURED or it ran. -/
theorem runConfigured_inv {f : State → State} {s t : State} (h : runConfigured f s = .next t) :
    (s.configured = false ∧ t = s.setErr .notConfigured) ∨
    (s.configured = true ∧ t = (f s).setErr .ok ∧ ∀ e ∈ issued s (f s), eventPinExists s.numGpio e = true) := by
  rcases runConfigured_cases f s with ⟨hc, h'⟩ | ⟨hc, h'⟩ <;> rw [h'] at h
  · exact .inl ⟨hc, (Host.Outcome.next.inj h).symm⟩
  · exact .inr ⟨hc, commit_inv h⟩

/-- What CONFIGURE can do. -/
theorem runConfigure_cases (s : State) :
    (s.configured = true ∧ runConfigure s = .next (s.setErr .alreadyConfigured)) ∨
    (s.configured = false ∧ 4 < s.widthBytes.toNat ∧ runConfigure s = .next (s.setErr .widthExceedsMax)) ∨
    (s.configured = false ∧ s.widthBytes.toNat ≤ 4 ∧ runConfigure s = commit s construct) := by
  cases h : s.configured <;> simp [runConfigure, raiseError, h, Config.maxWidthBytes]
  by_cases hw : 4 < s.widthBytes.toNat
  · simp [hw]
  · simp [hw]; omega

/-- If CONFIGURE answers a next state, it raised one of its two errors or it ran. -/
theorem runConfigure_inv {s t : State} (h : runConfigure s = .next t) :
    (s.configured = true ∧ t = s.setErr .alreadyConfigured) ∨
    (s.configured = false ∧ 4 < s.widthBytes.toNat ∧ t = s.setErr .widthExceedsMax) ∨
    (s.configured = false ∧ s.widthBytes.toNat ≤ 4 ∧ t = (construct s).setErr .ok ∧
      ∀ e ∈ issued s (construct s), eventPinExists s.numGpio e = true) := by
  rcases runConfigure_cases s with ⟨hc, h'⟩ | ⟨hc, hw, h'⟩ | ⟨hc, hw, h'⟩ <;> rw [h'] at h
  · exact .inl ⟨hc, (Host.Outcome.next.inj h).symm⟩
  · exact .inr (.inl ⟨hc, hw, (Host.Outcome.next.inj h).symm⟩)
  · exact .inr (.inr ⟨hc, hw, commit_inv h⟩)

end Sys2Proof.Machine
end

