-- ==== Sys2Proof/Laws/PerInstr.lean ====
section
/-! SUPPORT. Laws of every instruction as syntax, one lemma per constructor. -/

namespace Sys2Proof.Laws.Admissible

/-- 20_memory.md R51, R52: the access an instruction is encoded as is one the window admits: 32 bits wide, at a
word-aligned offset inside the 64 bytes. -/
def Statement (i : Instr) : Prop :=
  (encode i).size = 4 ∧ (encode i).off % 4 = 0 ∧ (encode i).off < windowBytes

/-- A read at an aligned offset of the window is admitted. -/
theorem of_read {i : Instr} (off : Nat) (h : off % 4 = 0 ∧ off < windowBytes) (he : encode i = busRead off) :
    Statement i := by
  unfold Statement; rw [he]; exact ⟨rfl, h⟩

/-- A write at an aligned offset of the window is admitted. -/
theorem of_write {i : Instr} {v : Word} (off : Nat) (h : off % 4 = 0 ∧ off < windowBytes)
    (he : encode i = busWrite off v) : Statement i := by
  unfold Statement; rw [he]; exact ⟨rfl, h⟩

theorem configure : Statement (.configure) := of_write 0x00 (by decide) rfl
theorem clockPulse : Statement (.clockPulse) := of_write 0x00 (by decide) rfl
theorem latchPulse : Statement (.latchPulse) := of_write 0x00 (by decide) rfl
theorem write : Statement (.write) := of_write 0x00 (by decide) rfl
theorem read : Statement (.read) := of_write 0x00 (by decide) rfl
theorem readWrite : Statement (.readWrite) := of_write 0x00 (by decide) rfl
theorem transfer : Statement (.transfer) := of_write 0x00 (by decide) rfl
theorem fill (arg : BitVec 24) : Statement (.fill arg) := of_write 0x00 (by decide) rfl
theorem rdCommand : Statement (.rdCommand) := of_read 0x00 (by decide) rfl
theorem wrCommand (v : Word) : Statement (.wrCommand v) := of_write 0x00 (by decide) rfl
theorem rdStatus : Statement (.rdStatus) := of_read 0x04 (by decide) rfl
theorem wrStatus (v : Word) : Statement (.wrStatus v) := of_write 0x04 (by decide) rfl
theorem rdMode : Statement (.rdMode) := of_read 0x08 (by decide) rfl
theorem wrMode (v : Word) : Statement (.wrMode v) := of_write 0x08 (by decide) rfl
theorem rdWidthBytes : Statement (.rdWidthBytes) := of_read 0x0C (by decide) rfl
theorem wrWidthBytes (v : Word) : Statement (.wrWidthBytes v) := of_write 0x0C (by decide) rfl
theorem rdClockPin : Statement (.rdClockPin) := of_read 0x10 (by decide) rfl
theorem wrClockPin (v : Word) : Statement (.wrClockPin v) := of_write 0x10 (by decide) rfl
theorem rdDataInPin : Statement (.rdDataInPin) := of_read 0x14 (by decide) rfl
theorem wrDataInPin (v : Word) : Statement (.wrDataInPin v) := of_write 0x14 (by decide) rfl
theorem rdDataOutPin : Statement (.rdDataOutPin) := of_read 0x18 (by decide) rfl
theorem wrDataOutPin (v : Word) : Statement (.wrDataOutPin v) := of_write 0x18 (by decide) rfl
theorem rdLatchPin : Statement (.rdLatchPin) := of_read 0x1C (by decide) rfl
theorem wrLatchPin (v : Word) : Statement (.wrLatchPin v) := of_write 0x1C (by decide) rfl
theorem rdClockEdgeDelay : Statement (.rdClockEdgeDelay) := of_read 0x20 (by decide) rfl
theorem wrClockEdgeDelay (v : Word) : Statement (.wrClockEdgeDelay v) := of_write 0x20 (by decide) rfl
theorem rdLatchPulseDelay : Statement (.rdLatchPulseDelay) := of_read 0x24 (by decide) rfl
theorem wrLatchPulseDelay (v : Word) : Statement (.wrLatchPulseDelay v) := of_write 0x24 (by decide) rfl
theorem rdInvertOutput : Statement (.rdInvertOutput) := of_read 0x28 (by decide) rfl
theorem wrInvertOutput (v : Word) : Statement (.wrInvertOutput v) := of_write 0x28 (by decide) rfl
theorem rdOutputBuffer : Statement (.rdOutputBuffer) := of_read 0x2C (by decide) rfl
theorem wrOutputBuffer (v : Word) : Statement (.wrOutputBuffer v) := of_write 0x2C (by decide) rfl
theorem rdInputBuffer : Statement (.rdInputBuffer) := of_read 0x30 (by decide) rfl
theorem wrInputBuffer (v : Word) : Statement (.wrInputBuffer v) := of_write 0x30 (by decide) rfl
theorem rdReserved34 : Statement (.rdReserved34) := of_read 0x34 (by decide) rfl
theorem wrReserved34 (v : Word) : Statement (.wrReserved34 v) := of_write 0x34 (by decide) rfl
theorem rdReserved38 : Statement (.rdReserved38) := of_read 0x38 (by decide) rfl
theorem wrReserved38 (v : Word) : Statement (.wrReserved38 v) := of_write 0x38 (by decide) rfl
theorem rdReserved3C : Statement (.rdReserved3C) := of_read 0x3C (by decide) rfl
theorem wrReserved3C (v : Word) : Statement (.wrReserved3C v) := of_write 0x3C (by decide) rfl

end Sys2Proof.Laws.Admissible
end

