-- ==== Sys2Proof/Tests/Slice0.lean ====
section
/-! SUPPORT. Tests. Expected results are those of spec/95_test_vectors.md (its ids are named), of the rules' own
examples, or worked out by hand from the rule named. Then, for each statement with hypotheses, a concrete case that
meets them. -/

namespace Sys2Proof.Tests

open Sys2Proof Sys2Proof.Machine

/-! ### Helpers -/

/-- 95 section 2: CONFIGURED, clk = 2, lat = 4, dout = 3, din = 5, one byte wide, on a platform of 16 pins. -/
def ready : State :=
  { State.reset with
    configured := true, widthBytes := 1, clockPin := 2, dataInPin := 5, dataOutPin := 3, latchPin := 4,
    clockEdgeDelay := 5, latchPulseDelay := 1, numGpio := 16 }

/-- The same registers, staged and not yet configured. -/
def staged : State := { ready with configured := false }

/-- `ready` at width 0. -/
def narrow : State := { ready with widthBytes := 0 }

/-- The state after an instruction that completes. -/
def after (i : Instr) (s : State) : Option State :=
  match exec i s with
  | .next t => some t
  | _ => none

/-- A field of the state after. -/
def get {α : Type} (f : State → α) (i : Instr) (s : State) : Option α := (after i s).map f

/-- The levels driven on pin `p`, in order. -/
def drives (p : PinId) (es : List Event) : List Nat :=
  es.filterMap (fun e => match e with
    | .drive q l => if q = p then some l.toNat else none
    | _ => none)

/-- The refusal an instruction ends in. -/
def refusalOf (i : Instr) (s : State) : Option Refusal :=
  match exec i s with
  | .refused r => some r
  | _ => none

/-- The last value the host read. -/
def lastRead (s : State) : Option Word := s.reads.getLast?

/-- The low byte of STATUS after an instruction, as 95 writes it. -/
def statusAfter (i : Instr) (s : State) : Option Word := get statusWord i s

/-! ### Well-formedness -/

theorem test_illFormed_command_word_as_wrCommand : WellFormed (.wrCommand 0x00000001) = false := by decide
theorem test_illFormed_fill_word_as_wrCommand : WellFormed (.wrCommand 0x00000708) = false := by decide
theorem test_wellFormed_illegal_word : WellFormed (.wrCommand 0x00000102) = true := by decide

/-! ### Decoding: words and accesses from R81, R86 and R20 -/

theorem test_decode_configure : decodeCommand 0x00000001 = some .configure := by decide
theorem test_decode_clockPulse : decodeCommand 0x00000002 = some .clockPulse := by decide
theorem test_decode_latchPulse : decodeCommand 0x00000003 = some .latchPulse := by decide
theorem test_decode_write : decodeCommand 0x00000004 = some .write := by decide
theorem test_decode_read : decodeCommand 0x00000005 = some .read := by decide
theorem test_decode_readWrite : decodeCommand 0x00000006 = some .readWrite := by decide
theorem test_decode_transfer : decodeCommand 0x00000007 = some .transfer := by decide
theorem test_decode_fill0 : decodeCommand 0x00000008 = some (.fill 0) := by decide
theorem test_decode_fill1 : decodeCommand 0x00000108 = some (.fill 1) := by decide
theorem test_decode_zero_illegal : decodeCommand 0x00000000 = none := by decide
theorem test_decode_arg_illegal : decodeCommand 0x00000101 = none := by decide
theorem test_decode_rdCommand : decode ⟨.read, 4, 0x00, 0⟩ = .ok .rdCommand := by rfl
theorem test_decode_wrCommand : decode ⟨.write, 4, 0x00, 0x00000009⟩ = .ok (.wrCommand 9) := by rfl
theorem test_decode_rdStatus : decode ⟨.read, 4, 0x04, 0⟩ = .ok .rdStatus := by rfl
theorem test_decode_wrStatus : decode ⟨.write, 4, 0x04, 7⟩ = .ok (.wrStatus 7) := by rfl
theorem test_decode_rdMode : decode ⟨.read, 4, 0x08, 0⟩ = .ok .rdMode := by rfl
theorem test_decode_wrMode : decode ⟨.write, 4, 0x08, 2⟩ = .ok (.wrMode 2) := by rfl
theorem test_decode_rdWidthBytes : decode ⟨.read, 4, 0x0C, 0⟩ = .ok .rdWidthBytes := by rfl
theorem test_decode_wrWidthBytes : decode ⟨.write, 4, 0x0C, 1⟩ = .ok (.wrWidthBytes 1) := by rfl
theorem test_decode_rdClockPin : decode ⟨.read, 4, 0x10, 0⟩ = .ok .rdClockPin := by rfl
theorem test_decode_wrClockPin : decode ⟨.write, 4, 0x10, 2⟩ = .ok (.wrClockPin 2) := by rfl
theorem test_decode_rdDataInPin : decode ⟨.read, 4, 0x14, 0⟩ = .ok .rdDataInPin := by rfl
theorem test_decode_wrDataInPin : decode ⟨.write, 4, 0x14, 5⟩ = .ok (.wrDataInPin 5) := by rfl
theorem test_decode_rdDataOutPin : decode ⟨.read, 4, 0x18, 0⟩ = .ok .rdDataOutPin := by rfl
theorem test_decode_wrDataOutPin : decode ⟨.write, 4, 0x18, 3⟩ = .ok (.wrDataOutPin 3) := by rfl
theorem test_decode_rdLatchPin : decode ⟨.read, 4, 0x1C, 0⟩ = .ok .rdLatchPin := by rfl
theorem test_decode_wrLatchPin : decode ⟨.write, 4, 0x1C, 4⟩ = .ok (.wrLatchPin 4) := by rfl
theorem test_decode_rdClockEdgeDelay : decode ⟨.read, 4, 0x20, 0⟩ = .ok .rdClockEdgeDelay := by rfl
theorem test_decode_wrClockEdgeDelay : decode ⟨.write, 4, 0x20, 5⟩ = .ok (.wrClockEdgeDelay 5) := by rfl
theorem test_decode_rdLatchPulseDelay : decode ⟨.read, 4, 0x24, 0⟩ = .ok .rdLatchPulseDelay := by rfl
theorem test_decode_wrLatchPulseDelay : decode ⟨.write, 4, 0x24, 5⟩ = .ok (.wrLatchPulseDelay 5) := by rfl
theorem test_decode_rdInvertOutput : decode ⟨.read, 4, 0x28, 0⟩ = .ok .rdInvertOutput := by rfl
theorem test_decode_wrInvertOutput : decode ⟨.write, 4, 0x28, 1⟩ = .ok (.wrInvertOutput 1) := by rfl
theorem test_decode_rdOutputBuffer : decode ⟨.read, 4, 0x2C, 0⟩ = .ok .rdOutputBuffer := by rfl
theorem test_decode_wrOutputBuffer : decode ⟨.write, 4, 0x2C, 0x80⟩ = .ok (.wrOutputBuffer 0x80) := by rfl
theorem test_decode_rdInputBuffer : decode ⟨.read, 4, 0x30, 0⟩ = .ok .rdInputBuffer := by rfl
theorem test_decode_wrInputBuffer : decode ⟨.write, 4, 0x30, 0x77⟩ = .ok (.wrInputBuffer 0x77) := by rfl
theorem test_decode_rdReserved34 : decode ⟨.read, 4, 0x34, 0⟩ = .ok .rdReserved34 := by rfl
theorem test_decode_wrReserved34 : decode ⟨.write, 4, 0x34, 5⟩ = .ok (.wrReserved34 5) := by rfl
theorem test_decode_rdReserved38 : decode ⟨.read, 4, 0x38, 0⟩ = .ok .rdReserved38 := by rfl
theorem test_decode_wrReserved38 : decode ⟨.write, 4, 0x38, 5⟩ = .ok (.wrReserved38 5) := by rfl
theorem test_decode_rdReserved3C : decode ⟨.read, 4, 0x3C, 0⟩ = .ok .rdReserved3C := by rfl
theorem test_decode_wrReserved3C : decode ⟨.write, 4, 0x3C, 5⟩ = .ok (.wrReserved3C 5) := by rfl
theorem test_decode_halfword : decode ⟨.read, 2, 0x08, 0⟩ = .error .notWordAccess := by rfl
theorem test_decode_misaligned : decode ⟨.write, 4, 0x3D, 0⟩ = .error .misalignedAccess := by rfl
theorem test_decode_outside : decode ⟨.read, 4, 0x40, 0⟩ = .error .outsideWindow := by rfl

/-! ### Table words as the first input after reset (log 3, log 4) -/

theorem test_table_word_transfer : decodeTableWord 32 7 = some .transfer := by decide
theorem test_table_word_read_mode : decodeTableWord 8 0x08 = some .rdMode := by decide
theorem test_table_word_write_mode : decodeTableWord 8 0x48 = some (.wrMode 0) := by decide

/-- At reset CONFIGURE completes on any platform: width 0, every pin 0, MODE 0 (R200, D12). -/
theorem test_configure_first_after_reset :
    (match step (State.reset.withFetchWord 32 1) with
      | .next t => t.configured
      | _ => false) = true := by decide

/-- R277: with no input the engine idles. -/
theorem test_idle : (match step ready with
    | .next t => decide (t = ready)
    | _ => false) = true := by decide

/-! ### Pulses -/

/-- T1. -/
theorem test_clockPulse : get (·.trace) .clockPulse ready =
    some [.drive 2 true, .hold 5, .drive 2 false, .hold 5] := by decide
/-- T4. -/
theorem test_clockPulse_unconfigured : statusAfter .clockPulse staged = some 0x20 := by decide
/-- T3. -/
theorem test_latchPulse : get (·.trace) .latchPulse ready = some [.drive 4 true, .hold 1, .drive 4 false] := by decide
/-- R55: pin 4 does not exist on a platform of 4 pins. -/
theorem test_latchPulse_missing_pin : refusalOf .latchPulse { ready with numGpio := 4 } = some (.noSuchPin 4) := by
  decide

/-! ### Transfers -/

/-- T10. -/
theorem test_write_levels : (get (·.trace) .write { ready with outputBuffer := 0xA5 }).map (drives 3) =
    some [1, 0, 1, 0, 0, 1, 0, 1] := by decide
/-- T15. -/
theorem test_write_width_zero : get (·.trace) .write narrow =
    some [.drive 4 true, .hold 1, .drive 4 false] := by decide
/-- T20. -/
theorem test_read_value : get (·.inputBuffer) .read
    { ready with samples := [true, false, true, true, false, false, true, false] } = some 0xB2 := by decide
/-- T25. -/
theorem test_read_width_zero : get (fun t => (t.inputBuffer, t.trace)) .read { narrow with inputBuffer := 0x12345678 } =
    some (0, [.drive 4 true, .drive 4 false]) := by decide
/-- T30. -/
theorem test_readWrite : get (fun t => (t.inputBuffer, drives 3 t.trace, t.trace.length)) .readWrite
    { ready with outputBuffer := 0x3C, samples := [false, false, false, false, true, true, true, true] } =
    some (0x0F, [0, 0, 1, 1, 1, 1, 0, 0], 82) := by decide
/-- T32. -/
theorem test_readWrite_width_zero : get (·.trace) .readWrite narrow = some [.drive 4 true, .drive 4 false] := by decide
/-- R205's example. -/
theorem test_transfer_readOnly : get (·.inputBuffer) .transfer
    { ready with mode := .readOnly, samples := List.replicate 8 true } = some 0xFF := by decide
/-- T54. -/
theorem test_transfer_writeOnly : get (fun t => (t.inputBuffer, t.trace)) .transfer { ready with inputBuffer := 0x77 } =
    get (fun t => (t.inputBuffer, t.trace)) .write { ready with inputBuffer := 0x77 } := by decide
/-- T42. -/
theorem test_fill_ones : (get (·.trace) (.fill 0xFFFFFF) ready).map (drives 3) = some (List.replicate 8 1) := by decide
/-- T44. -/
theorem test_fill_inverted : (get (·.trace) (.fill 7) { ready with invertOutput := true }).map (drives 3) =
    some (List.replicate 8 0) := by decide

/-! ### Construction -/

/-- T58. -/
theorem test_configure_set_up : get (fun t => (statusWord t, t.trace)) .configure
    { staged with widthBytes := 0, dataInPin := 0, dataOutPin := 0 } =
    some (1, [.setDir 2 .output, .setDir 4 .output, .drive 2 false, .drive 4 false,
      .drive 4 true, .hold 1, .drive 4 false]) := by decide
/-- T50. -/
theorem test_configure_too_wide : get (fun t => (statusWord t, t.trace, t.widthBytes)) .configure
    { staged with widthBytes := 5 } = some (0x10, [], 5) := by decide

/-! ### Register access -/

/-- T75. -/
theorem test_rdCommand : (after .rdCommand ready).bind lastRead = some 0 := by decide
/-- T64. -/
theorem test_wrCommand_illegal_beats_width :
    statusAfter (.wrCommand 0x00000101) { staged with widthBytes := 9 } = some 0x40 := by decide
/-- T66. -/
theorem test_wrCommand_clock_pulse : get (fun t => (statusWord t, t.trace)) (.wrCommand 0x00000002)
    { ready with errCode := .illegalCommand } =
    some (1, [.drive 2 true, .hold 5, .drive 2 false, .hold 5]) := by decide
/-- T52's STATUS, 0x31. -/
theorem test_rdStatus : (after .rdStatus { ready with errCode := .alreadyConfigured }).bind lastRead = some 0x31 := by
  decide
/-- R223's example. -/
theorem test_wrStatus : statusAfter (.wrStatus 0) { staged with errCode := .widthExceedsMax } = some 0x10 := by decide
/-- R224. -/
theorem test_rdMode : (after .rdMode { ready with mode := .readWrite }).bind lastRead = some 2 := by decide
/-- T72. -/
theorem test_wrMode : get (·.mode) (.wrMode 0xFFFFFFFE) staged = some .readWrite := by decide
/-- T53. -/
theorem test_wrMode_locked : get (·.mode) (.wrMode 2) ready = some .writeOnly := by decide
/-- R226. -/
theorem test_rdWidthBytes : (after .rdWidthBytes { staged with widthBytes := 255 }).bind lastRead = some 255 := by decide
/-- R227's example. -/
theorem test_wrWidthBytes : get (·.widthBytes) (.wrWidthBytes 0x105) staged = some 5 := by decide
/-- R228. -/
theorem test_rdClockPin : (after .rdClockPin ready).bind lastRead = some 2 := by decide
/-- T77. -/
theorem test_wrClockPin : get (·.clockPin) (.wrClockPin 0x1234) staged = some 0x34 := by decide
/-- R229's example. -/
theorem test_wrClockPin_locked : get (·.clockPin) (.wrClockPin 9) ready = some 2 := by decide
/-- R230. -/
theorem test_rdDataInPin : (after .rdDataInPin ready).bind lastRead = some 5 := by decide
/-- R231's example. -/
theorem test_wrDataInPin : get (·.dataInPin) (.wrDataInPin 12) staged = some 12 := by decide
/-- R232. -/
theorem test_rdDataOutPin : (after .rdDataOutPin ready).bind lastRead = some 3 := by decide
/-- R233's example. -/
theorem test_wrDataOutPin : get (·.dataOutPin) (.wrDataOutPin 0x1FF) staged = some 0xFF := by decide
/-- R234. -/
theorem test_rdLatchPin : (after .rdLatchPin ready).bind lastRead = some 4 := by decide
/-- R235. -/
theorem test_wrLatchPin : get (·.latchPin) (.wrLatchPin 0x106) staged = some 6 := by decide
/-- R236. -/
theorem test_rdClockEdgeDelay : (after .rdClockEdgeDelay ready).bind lastRead = some 5 := by decide
/-- T74. -/
theorem test_wrClockEdgeDelay : get (·.clockEdgeDelay) (.wrClockEdgeDelay 0xFFFFFFFF) ready = some 0xFFFFFFFF := by
  decide
/-- R238. -/
theorem test_rdLatchPulseDelay : (after .rdLatchPulseDelay ready).bind lastRead = some 1 := by decide
/-- R239. -/
theorem test_wrLatchPulseDelay : get (·.latchPulseDelay) (.wrLatchPulseDelay 0x80000000) staged = some 0x80000000 := by
  decide
/-- R240. -/
theorem test_rdInvertOutput : (after .rdInvertOutput { ready with invertOutput := true }).bind lastRead = some 1 := by
  decide
/-- T73. -/
theorem test_wrInvertOutput : get (·.invertOutput) (.wrInvertOutput 2) { ready with invertOutput := true } =
    some false := by decide
/-- R242, R243's example. -/
theorem test_rdOutputBuffer : (after .rdOutputBuffer { ready with outputBuffer := 0x1A5 }).bind lastRead =
    some 0x1A5 := by decide
/-- R243's example. -/
theorem test_wrOutputBuffer : get (·.outputBuffer) (.wrOutputBuffer 0x1A5) ready = some 0x1A5 := by decide
/-- R244. -/
theorem test_rdInputBuffer : (after .rdInputBuffer { ready with inputBuffer := 0xDEADBEEF }).bind lastRead =
    some 0xDEADBEEF := by decide
/-- R245. -/
theorem test_wrInputBuffer : get (·.inputBuffer) (.wrInputBuffer 0xDEADBEEF) ready = some 0xDEADBEEF := by decide
/-- R246's example. -/
theorem test_rdReserved34 : (after .rdReserved34 ready).bind lastRead = some 0 := by decide
/-- R247. -/
theorem test_wrReserved34 : after (.wrReserved34 5) ready = some ready := by decide
/-- R246. -/
theorem test_rdReserved38 : (after .rdReserved38 ready).bind lastRead = some 0 := by decide
/-- R247's example. -/
theorem test_wrReserved38 : after (.wrReserved38 0xFFFFFFFF) ready = some ready := by decide
/-- T76. -/
theorem test_rdReserved3C : (after .rdReserved3C ready).bind lastRead = some 0 := by decide
/-- T76. -/
theorem test_wrReserved3C : after (.wrReserved3C 5) ready = some ready := by decide

/-! ### The reference devices (E6's pattern at one byte, T30's values) -/

/-- An OUT-chain on `ready`'s lines. -/
def outChain : OutChain := ⟨8, 2, 4, 3, false, false, false, 0, 0⟩

/-- An IN-chain on `ready`'s lines with parallel inputs 0x0F. -/
def inChain : InChain := ⟨8, 2, 4, 5, false, false, 0x0F, 0⟩

/-- `ready` with OUTPUT_BUFFER 0x3C and an environment that answers as `inChain` does. -/
def wired : State :=
  { ready with outputBuffer := 0x3C, samples := [false, false, false, false, true, true, true, true] }

set_option maxRecDepth 4000 in
theorem test_out_chain : (get (·.trace) .write wired).map (fun es => (outChainRun outChain es).q) = some 0x3C := by decide
theorem test_in_chain : (get (·.trace) .read wired).map (inChainAgrees inChain) = some true := by decide

/-! ### Two instances (R275; R28 and R55 for pin 0) -/

/-- An instance on pins 0 and 1, on the platform of `ready`. -/
def onPinZero : State := { ready with clockPin := 0, latchPin := 1, dataInPin := 0, dataOutPin := 6 }

/-- An instance on pins 2 to 5 with its data-out line unwired, to be offered the word `v` for COMMAND. -/
def unwiredOut (v : Word) : State := { ready with dataOutPin := 0, inputs := [.access (busWrite 0x00 v)] }

/-- A WRITE of the second instance drives the first one's clock pin 0: the system is refused. -/
theorem test_system_unwired_write_shares_pin_zero :
    (match systemStep 1 [onPinZero, unwiredOut 4] with
      | .refused r => r == .sharedPins
      | _ => false) = true := by decide

/-- A LATCH_PULSE of it does not touch pin 0: the system runs. -/
theorem test_system_unwired_pulse_runs :
    (match systemStep 1 [onPinZero, unwiredOut 3] with
      | .next sys => sys[0]? == some onPinZero
      | _ => false) = true := by decide

/-! ### Witnesses: a case that meets the hypotheses of each statement that has any -/

/-- A completed instruction answers a next state. -/
theorem exec_of_after {i : Instr} {s : State} (h : (after i s).isSome = true) : ∃ t, exec i s = .next t := by
  unfold after at h
  cases hx : exec i s <;> simp_all

theorem witness_DecodeEncode : WellFormed (.fill 0xFFFFFF) = true ∧ WellFormed (.wrCommand 0x00000900) = true := by decide
theorem witness_EncodeDecode : decode ⟨.read, 4, 0x3C, 0#32⟩ = .ok .rdReserved3C ∧
    decode ⟨.write, 4, 0x00, 0xFFFFFF08#32⟩ = .ok (.fill 0xFFFFFF) := ⟨rfl, rfl⟩
theorem witness_IllegalWord : (0x00000000#32).toNat % 256 = 0 ∧ 9 ≤ (0x00000009#32).toNat % 256 ∧
    ((0x00000107#32).toNat / 256 ≠ 0 ∧ (0x00000107#32).toNat % 256 ≠ 8) := by decide
theorem witness_OnlyAlignedWords : 0x3C < 64 ∧ ¬ (2 = 4 ∧ 0x3C % 4 = 0) ∧ ¬ (4 = 4 ∧ 0x3F % 4 = 0) ∧
    { ready with inputs := [.access ⟨.read, 4, 0x3F, 0⟩] }.inputs = .access ⟨.read, 4, 0x3F, 0⟩ :: [] := by decide
theorem witness_WindowOnly_inside : Config.engineBase ≤ Config.engineBase + 63 ∧
    Config.engineBase + 63 < Config.engineBase + 64 := by omega
theorem witness_WindowOnly_outside : Config.engineBase + 64 < Config.engineBase ∨
    Config.engineBase + 64 ≤ Config.engineBase + 64 := by omega
theorem witness_WindowOnly_access : { ready with inputs := [.access ⟨.read, 4, 64, 0⟩] }.inputs =
    .access ⟨.read, 4, 64, 0⟩ :: [] ∧ 64 ≤ 64 := by decide
theorem witness_StepRunsInstruction : { ready with inputs := [.access (busRead 4)] }.inputs =
    .access (busRead 4) :: [] ∧ decode (busRead 4) = .ok .rdStatus := ⟨rfl, rfl⟩
theorem witness_PowerOnInput : { ready with inputs := [.powerOn] }.inputs = .powerOn :: [] := rfl
theorem witness_ResetValues : staged.configured = false ∧ isConfigure (.wrMode 2) = false ∧
    (after (.wrMode 2) staged).isSome = true := by decide
theorem witness_Lifecycle_enter : get (·.configured) .configure staged = some true ∧ staged.configured = false := by decide
theorem witness_Lifecycle_fail : get (·.errCode) .configure { staged with widthBytes := 5 } = some .widthExceedsMax := by
  decide
theorem witness_Lifecycle_stay : (after .write ready).isSome = true ∧ ready.configured = true := by decide
theorem witness_Lifecycle_leave : (match step { ready with inputs := [.powerOn] } with
    | .next t => !t.configured
    | _ => false) = true := by decide
theorem witness_WriteMode : staged.configured = false ∧ (6#32).toNat % 4 ≠ 3 ∧ (7#32).toNat % 4 = 3 ∧
    ready.configured = true := by decide
theorem witness_WriteLockedBytes : staged.configured = false ∧ ready.configured = true := by decide
theorem witness_ClockPulseRule : ready.configured = true ∧ Present ready ready.clockPin ∧ staged.configured = false ∧
    (1#24) ≠ 0#24 := by decide
theorem witness_LatchPulseRule : ready.configured = true ∧ Present ready ready.latchPin := by decide
theorem witness_WriteRule : ready.configured = true ∧ WritePins ready ∧ WritePins narrow := by decide
theorem witness_ReadRule : ready.configured = true ∧ ReadPins ready ∧ ReadPins narrow := by decide
theorem witness_ReadWriteRule : ready.configured = true ∧ WritePins ready ∧ ReadPins ready := by decide
theorem witness_AnswersInOrder : (after .read ready).isSome = true ∧ (after .readWrite ready).isSome = true := by decide
theorem witness_FillRule : ready.configured = true ∧ WritePins ready ∧
    (after (.wrCommand 0xFFFFFF08) ready).isSome = true := by decide
/-- `ready` in the other two modes. -/
def readyRead : State := { ready with mode := .readOnly }
def readyHybrid : State := { ready with mode := .readWrite }

theorem witness_TransferRule : ready.configured = true ∧ TransferPins ready ∧ TransferPins readyRead ∧
    TransferPins readyHybrid := by
  refine ⟨by decide, ?_, ?_, ?_⟩ <;> decide
/-- `staged` at width 0 with no data-in line. -/
def stagedNarrow : State := { staged with widthBytes := 0, dataInPin := 0 }

theorem witness_ConfigureRule : staged.configured = false ∧ staged.widthBytes.toNat ≤ 4 ∧ ConfigurePins staged ∧
    ConfigurePins stagedNarrow ∧ 4 < (5#8).toNat := by
  refine ⟨by decide, by decide, ?_, ?_, by decide⟩ <;> decide
theorem witness_WidthCheck : staged.configured = false ∧ staged.widthBytes.toNat ≤ 4 ∧
    5 ≤ ({ staged with widthBytes := 255 } : State).widthBytes.toNat := by decide
theorem witness_ConfigureRetry : staged.configured = false ∧
    4 < ({ staged with widthBytes := 5, numGpio := 256 } : State).widthBytes.toNat ∧ (4#32).toNat ≤ 4 := by decide
theorem witness_CapturedBits : ready.configured = true ∧ ready.widthBytes.toNat ≤ 4 ∧
    (after .read ready).isSome = true ∧ (after .readWrite ready).isSome = true ∧ 7 < bitWidth ready := by decide
theorem witness_ErrorPriority : legalCommandWord 0x00000101 = false ∧ legalCommandWord 1 = true ∧
    legalCommandWord 0x00000708 = true ∧ (0x00000708#32).toNat ≠ 1 ∧ ready.configured = true ∧
    staged.configured = false ∧ 4 < ({ staged with widthBytes := 5 } : State).widthBytes.toNat := by decide
theorem witness_ErrorsArePrecise : isCommand .write = true ∧ get (·.errCode) .write staged = some .notConfigured := by
  decide
theorem witness_WhichErrors : get (·.errCode) (.wrCommand 1) ready = some .alreadyConfigured ∧
    get (·.errCode) (.wrCommand 8) staged = some .notConfigured ∧
    get (·.errCode) (.wrCommand 7) staged = some .notConfigured ∧
    get (·.errCode) (.wrCommand 9) staged = some .illegalCommand := by decide
theorem witness_MissingPinRefused : refusalOf .write { ready with numGpio := 3 } = some (.noSuchPin 3) ∧
    ¬ Present { ready with numGpio := 4 } ready.latchPin ∧ ¬ Present { ready with numGpio := 2 } ready.clockPin ∧
    ¬ WritePins { ready with numGpio := 4 } ∧ ¬ ReadPins { ready with numGpio := 5 } ∧
    ¬ TransferPins { ready with numGpio := 4 } := by
  refine ⟨by decide, by decide, by decide, ?_, ?_, ?_⟩ <;> decide
theorem witness_MissingPinRefused_configure : staged.widthBytes.toNat ≤ 4 ∧ ¬ ConfigurePins { staged with numGpio := 5 } := by
  refine ⟨by decide, ?_⟩; decide
theorem witness_EverythingCompletes : 256 ≤ ({ ready with numGpio := 256 } : State).numGpio := by decide
theorem witness_OnlyCommands : isCommand (.wrMode 1) = false ∧ (after (.wrMode 1) staged).isSome = true := by decide
theorem witness_LockedAfterConfigure : (after (.wrClockPin 9) ready).isSome = true ∧ ready.configured = true := by decide
theorem witness_HostRegisters : get (·.outputBuffer) (.wrOutputBuffer 1) ready ≠ some ready.outputBuffer ∧
    get (·.clockEdgeDelay) (.wrClockEdgeDelay 9) ready ≠ some ready.clockEdgeDelay ∧
    get (·.latchPulseDelay) (.wrLatchPulseDelay 9) ready ≠ some ready.latchPulseDelay ∧
    get (·.invertOutput) (.wrInvertOutput 1) ready ≠ some ready.invertOutput := by decide
theorem witness_InputBufferWriters : get (·.inputBuffer) .read wired = some 0x0F ∧ wired.inputBuffer = 0 := by decide
theorem witness_TraceOnlyGrows : (after .write ready).isSome = true := by decide
theorem witness_OnlyConfigureSetsDirections : (after .write ready).isSome = true ∧ isConfigure .write = false := by decide
theorem witness_LinesAfterTransfer : ready.configured = true ∧ 1 ≤ ready.widthBytes.toNat ∧
    (after .write ready).isSome = true ∧ (after .read ready).isSome = true ∧ (after .readWrite ready).isSome = true ∧
    (after (.fill 1) ready).isSome = true ∧ ready.dataOutPin ≠ ready.clockPin ∧ ready.dataOutPin ≠ ready.latchPin := by
  decide
theorem witness_AfterConfigure : staged.trace = [] ∧ get (·.errCode) .configure staged = some .ok ∧
    staged.clockPin ≠ staged.dataInPin ∧ staged.clockPin ≠ staged.dataOutPin ∧ staged.clockPin ≠ staged.latchPin ∧
    staged.dataInPin ≠ staged.dataOutPin ∧ staged.dataInPin ≠ staged.latchPin ∧
    staged.dataOutPin ≠ staged.latchPin := by decide
theorem witness_HybridEventOrder : (after .readWrite ready).isSome = true ∧ 0 < bitWidth ready := by decide
theorem witness_HoldSums : (after .clockPulse ready).isSome = true ∧ (after .latchPulse ready).isSome = true ∧
    (after .write ready).isSome = true ∧ (after (.fill 0) ready).isSome = true ∧
    (after .read ready).isSome = true ∧ (after .readWrite ready).isSome = true ∧
    (after .transfer ready).isSome = true ∧ get (·.errCode) .configure staged = some .ok := by decide
theorem witness_EventCounts : isCommand .configure = true ∧ get (·.errCode) .configure staged = some .ok ∧
    get (·.errCode) .read staged = some .notConfigured := by decide
theorem witness_HighBitsNotDriven : (∀ k, k < bitWidth ready → (0xFF00#32).getLsbD k = ready.outputBuffer.getLsbD k) ∧
    (after .write ready).isSome = true ∧ (after .write { ready with outputBuffer := 0xFF00#32 }).isSome = true := by decide
theorem witness_InversionComplements : bitWidth ready ≤ 32 ∧
    (after .write { ready with invertOutput := true }).isSome = true ∧
    (after .write { ready with invertOutput := false, outputBuffer := ~~~ready.outputBuffer }).isSome = true := by decide
theorem witness_FillReadsNoBuffer : (1#24) ≠ 0#24 ∧ (0x800000#24) ≠ 0#24 ∧ (after (.fill 1) ready).isSome = true ∧
    (after (.fill 1) { ready with outputBuffer := 0xA5 }).isSome = true := by decide
theorem witness_ReadIgnoresInversion : (after .read ready).isSome = true ∧
    (after .read { ready with invertOutput := true }).isSome = true := by decide
theorem witness_InvStep : Inv { staged with inputs := [.access (busWrite 0 1)] } ∧
    (match step { staged with inputs := [.access (busWrite 0 1)] } with
      | .next t => decide (Inv t) && t.configured
      | _ => false) = true := by decide
theorem witness_OutChainShowsBuffer : wired.configured = true ∧ wired.widthBytes.toNat ≤ 4 ∧
    wired.clockPin ≠ wired.latchPin ∧ wired.dataOutPin ≠ wired.clockPin ∧ wired.dataOutPin ≠ wired.latchPin ∧
    outChain.width = bitWidth wired ∧ outChain.clockPin = wired.clockPin ∧ outChain.latchPin = wired.latchPin ∧
    outChain.dataPin = wired.dataOutPin ∧ outChain.clock = false ∧ outChain.latch = false ∧
    outChain.sr < 2 ^ outChain.width ∧ (after .write wired).isSome = true := by decide
theorem witness_InChainCaptured : inChain.width = bitWidth wired ∧ inChain.clockPin = wired.clockPin ∧
    inChain.latchPin = wired.latchPin ∧ inChain.dataPin = wired.dataInPin ∧ inChain.clock = false ∧
    inChain.latch = false ∧ inChain.inputs < 2 ^ inChain.width ∧
    get (fun t => inChainAgrees inChain (issued wired t)) .read wired = some true := by decide
set_option maxRecDepth 4000 in
theorem witness_HybridCycle : get (fun t => inChainAgrees inChain (issued wired t)) .readWrite wired = some true := by decide
theorem witness_InstancesIsolated_next : (match systemStep 1 [ready, { State.reset with numGpio := 16 }] with
    | .next sys => sys.length == 2
    | _ => false) = true := by decide
theorem witness_InstancesIsolated_shared : ready.configured = true ∧ (2#8 : PinId) ∈ usedPins ready := by decide
theorem witness_InstancesIsolated_issued : ∃ t, exec .write (unwiredOut 4) = .next t ∧
    ∃ e ∈ t.trace, eventPin e = some 0#8 := by
  have h : (get (fun t => t.trace.any (fun e => decide (eventPin e = some 0#8))) .write (unwiredOut 4)) = some true := by
    decide
  unfold get after at h
  split at h <;> simp_all

end Sys2Proof.Tests
end

/-! SUPPORT. What an instruction and a step can do, said once: the inversion lemmas of `exec` and `step`. -/

namespace Sys2Proof.Machine

/-! ### The commands other than CONFIGURE -/

/-- The state a command other than CONFIGURE leaves, apart from its trace and its code. -/
def afterCommand (c : Instr) (s : State) : State :=
  match c with
  | .read | .readWrite => captured s
  | .transfer => afterTransfer s
  | _ => s

/-- The events a command other than CONFIGURE issues. -/
def commandTrace (c : Instr) (s : State) : List Event :=
  match c with
  | .clockPulse => cpTrace s
  | .latchPulse => lpTrace s
  | .write => writeTrace s
  | .read => readTrace s (answers s)
  | .readWrite => hybridTrace s (answers s)
  | .transfer => transferTrace s (answers s)
  | .fill arg => fillTrace arg s
  | _ => []

/-- The work of a command other than CONFIGURE. -/
def commandWork (c : Instr) (s : State) : State := (afterCommand c s).emit (commandTrace c s)

/-- R82: a command other than CONFIGURE is its work, run only while CONFIGURED. -/
theorem exec_command {c : Instr} (hc : isTransferOrPulse c = true) (s : State) :
    exec c s = runConfigured (commandWork c) s := by
  have run {f g : State → State} (h : ∀ s, f s = g s) : runConfigured f s = runConfigured g s := by
    rw [funext h]
  cases c with
  | clockPulse => exact run clockPulse_eq
  | latchPulse => exact run latchPulse_eq
  | write => exact run writeTransfer_eq
  | read => exact run readTransfer_eq
  | readWrite => exact run hybridTransfer_eq
  | transfer => exact run transferByMode_eq
  | fill arg => exact run (fillTransfer_eq arg)
  | _ => cases hc

theorem afterTransfer_cases (s : State) : afterTransfer s = s ∨ afterTransfer s = captured s := by
  unfold afterTransfer
  cases s.mode
  · exact .inl rfl
  · exact .inr rfl
  · exact .inr rfl

theorem afterCommand_cases (c : Instr) (s : State) : afterCommand c s = s ∨ afterCommand c s = captured s := by
  cases c with
  | read | readWrite => exact .inr rfl
  | transfer => exact afterTransfer_cases s
  | _ => exact .inl rfl

theorem commandWork_trace (c : Instr) (s : State) : (commandWork c s).trace = s.trace ++ commandTrace c s := by
  unfold commandWork
  obtain h | h := afterCommand_cases c s <;> rw [h] <;> rfl

/-- A command that ran changed only the trace, INPUT_BUFFER, the code and the answers left. -/
theorem commandWork_onlyCaptures (c : Instr) (s : State) (e : ErrCode) :
    OnlyCaptures s ((commandWork c s).setErr e) := by
  unfold commandWork
  obtain h | h := afterCommand_cases c s <;> rw [h] <;> rfl

/-- The events CONFIGURE issues (R200). -/
def configureTrace (s : State) : List Event := setUpTrace s ++ commandTrace .transfer s

theorem construct_trace (s : State) : (construct s).trace = s.trace ++ configureTrace s := by
  rw [construct_eq, afterTransfer_frame]; rfl

/-- CONFIGURE changes what a transfer changes, and sets CONFIGURED. -/
theorem construct_onlyCaptures (s : State) (e : ErrCode) :
    OnlyCaptures { s with configured := true } ((construct s).setErr e) := by
  rw [construct_eq, afterTransfer_frame]; rfl

/-! ### The write of a word to COMMAND -/

/-- A word that selects a command is 1 and selects CONFIGURE, or selects one of the seven others. -/
theorem decodeCommand_cases {w : Word} {c : Instr} (h : decodeCommand w = some c) :
    (c = .configure ∧ w = 1#32) ∨ isTransferOrPulse c = true := by
  unfold decodeCommand at h
  split at h
  · cases h; exact .inr rfl
  · split at h
    case isTrue harg =>
      split at h <;> cases h
      case h_1 hopc =>
        have hopc : commandOpc w = 0x01#8 := BitVec.eq_of_toNat_eq hopc
        rw [← commandWord_fields w, hopc, harg]
        exact .inl ⟨rfl, rfl⟩
      all_goals exact .inr rfl
    case isFalse => cases h

/-- R82, R221: a write to COMMAND runs the command its word selects; a word that selects none is an illegal command. -/
theorem exec_wrCommand (w : Word) (s : State) :
    exec (.wrCommand w) s = (decodeCommand w).elim (raiseError .illegalCommand s) (exec · s) := by
  have hopc : commandOpc w = 0x08#8 ↔ (commandOpc w).toNat = 8 := by simp [BitVec.toNat_eq]
  simp only [exec, execWrCommand, runCommandWord, decodeCommand, hopc]
  generalize (commandOpc w).toNat = n
  obtain hn | rfl | ⟨m, rfl⟩ : (1 ≤ n ∧ n ≤ 8) ∨ n = 0 ∨ ∃ m, n = m + 9 := by
    by_cases h : 9 ≤ n
    · exact .inr (.inr ⟨n - 9, by omega⟩)
    · omega
  · obtain ⟨_, _⟩ := hn
    by_cases harg : commandArg w = 0#24 <;> interval_cases n <;> simp [harg]
  · simp
  · simp

/-- The instruction `i` runs the command `c`: it is `c`, or the write of a word that selects `c` (R221). -/
def Runs (i c : Instr) : Prop := i = c ∨ ∃ w, i = .wrCommand w ∧ decodeCommand w = some c

theorem isCommand_of_runs {i c : Instr} (h : Runs i c) (hc : isTransferOrPulse c = true) : isCommand i = true := by
  obtain rfl | ⟨w, rfl, -⟩ := h
  · cases i with
    | configure | wrCommand => rfl
    | _ => exact hc
  · rfl

theorem isConfigure_of_runs {i : Instr} (h : Runs i .configure) : isConfigure i = true := by
  obtain rfl | ⟨w, rfl, hw⟩ := h
  · rfl
  · obtain ⟨-, rfl⟩ | hc := decodeCommand_cases hw
    · rfl
    · cases hc

theorem isCommand_of_isConfigure {i : Instr} (h : isConfigure i = true) : isCommand i = true := by
  cases i with
  | configure | wrCommand => rfl
  | _ => cases h

/-! ### What an instruction can do -/

/-- `t` is `s` but for the registers that are locked while CONFIGURED (R24 to R29). -/
abbrev OnlyStages (s t : State) : Prop :=
  t = { s with
    mode := t.mode, widthBytes := t.widthBytes, clockPin := t.clockPin, dataInPin := t.dataInPin,
    dataOutPin := t.dataOutPin, latchPin := t.latchPin }

/-- What a register access `i` that runs no command can do in the state `s` (46_host_register_access.md). -/
inductive AccessEffect (i : Instr) (s : State) : State → Prop where
  | answered (v : Word) : AccessEffect i s (s.answerRead v)
  | ignored : AccessEffect i s s
  | staged {t : State} (hs : s.configured = false) (ht : OnlyStages s t) : AccessEffect i s t
  | clockEdgeDelay {v : Word} (hi : i = .wrClockEdgeDelay v) : AccessEffect i s { s with clockEdgeDelay := v }
  | latchPulseDelay {v : Word} (hi : i = .wrLatchPulseDelay v) : AccessEffect i s { s with latchPulseDelay := v }
  | invertOutput {v : Word} (hi : i = .wrInvertOutput v) : AccessEffect i s { s with invertOutput := lowBit v }
  | outputBuffer {v : Word} (hi : i = .wrOutputBuffer v) : AccessEffect i s { s with outputBuffer := v }
  | inputBuffer {v : Word} (hi : i = .wrInputBuffer v) : AccessEffect i s { s with inputBuffer := v }

/-- What an instruction `i` can do in the state `s`: a register access, a command that raised an error, a command
other than CONFIGURE that ran, or a CONFIGURE that ran. -/
inductive Effect (i : Instr) (s : State) : State → Prop where
  | accessed {t : State} (hi : isCommand i = false) (ht : AccessEffect i s t) : Effect i s t
  | failed {e : ErrCode} (hi : isCommand i = true) (he : e ≠ .ok) : Effect i s (s.setErr e)
  | ran {c : Instr} (hi : Runs i c) (hc : isTransferOrPulse c = true) (hs : s.configured = true)
      (hp : ∀ e ∈ commandTrace c s, eventPinExists s.numGpio e = true) :
      Effect i s ((commandWork c s).setErr .ok)
  | constructed (hi : Runs i .configure) (hs : s.configured = false) (hw : s.widthBytes.toNat ≤ 4)
      (hp : ∀ e ∈ configureTrace s, eventPinExists s.numGpio e = true) :
      Effect i s ((construct s).setErr .ok)

/-- A write to a locked register is ignored while CONFIGURED and stages a value otherwise. -/
theorem writeLocked_effect {i : Instr} {f : State → State} {s t : State} (h : writeLocked f s = .next t)
    (hf : OnlyStages s (f s)) : AccessEffect i s t := by
  obtain rfl := Host.Outcome.next.inj h
  cases hs : s.configured with
  | true => simpa [hs] using AccessEffect.ignored
  | false => simpa [hs] using AccessEffect.staged hs hf

theorem access_effect {i : Instr} {s t : State} (hi : isCommand i = false) (h : exec i s = .next t) :
    AccessEffect i s t := by
  cases i with
  | configure | clockPulse | latchPulse | write | read | readWrite | transfer | fill arg | wrCommand v => cases hi
  | rdCommand | rdStatus | rdMode | rdWidthBytes | rdClockPin | rdDataInPin | rdDataOutPin | rdLatchPin
  | rdClockEdgeDelay | rdLatchPulseDelay | rdInvertOutput | rdOutputBuffer | rdInputBuffer | rdReserved34
  | rdReserved38 | rdReserved3C => cases h; exact .answered _
  | wrStatus v | wrReserved34 v | wrReserved38 v | wrReserved3C v => cases h; exact .ignored
  | wrMode v | wrWidthBytes v | wrClockPin v | wrDataInPin v | wrDataOutPin v | wrLatchPin v =>
    simp only [exec, execWrMode, execWrWidthBytes, execWrClockPin, execWrDataInPin, execWrDataOutPin,
      execWrLatchPin] at h
    exact writeLocked_effect h rfl
  | wrClockEdgeDelay v => cases h; exact .clockEdgeDelay rfl
  | wrLatchPulseDelay v => cases h; exact .latchPulseDelay rfl
  | wrInvertOutput v => cases h; exact .invertOutput rfl
  | wrOutputBuffer v => cases h; exact .outputBuffer rfl
  | wrInputBuffer v => cases h; exact .inputBuffer rfl

theorem command_effect {i c : Instr} {s t : State} (hi : Runs i c) (hc : isTransferOrPulse c = true)
    (h : exec c s = .next t) : Effect i s t := by
  rw [exec_command hc] at h
  obtain ⟨-, rfl⟩ | ⟨hs, rfl, hp⟩ := runConfigured_inv h
  · exact .failed (isCommand_of_runs hi hc) (by decide)
  · rw [issued_eq (commandWork_trace c s)] at hp
    exact .ran hi hc hs hp

theorem configure_effect {i : Instr} {s t : State} (hi : Runs i .configure) (h : exec .configure s = .next t) :
    Effect i s t := by
  have hcmd : isCommand i = true := isCommand_of_isConfigure (isConfigure_of_runs hi)
  obtain ⟨-, rfl⟩ | ⟨-, -, rfl⟩ | ⟨hs, hw, rfl, hp⟩ := runConfigure_inv h
  · exact .failed hcmd (by decide)
  · exact .failed hcmd (by decide)
  · rw [issued_eq (construct_trace s)] at hp
    exact .constructed hi hs hw hp

theorem wrCommand_effect {w : Word} {s t : State} (h : exec (.wrCommand w) s = .next t) :
    Effect (.wrCommand w) s t := by
  rw [exec_wrCommand] at h
  cases hw : decodeCommand w with
  | none =>
    rw [hw] at h
    obtain rfl := Host.Outcome.next.inj h
    exact .failed rfl (by decide)
  | some c =>
    rw [hw] at h
    have hi : Runs (.wrCommand w) c := .inr ⟨w, rfl, hw⟩
    obtain ⟨rfl, -⟩ | hc := decodeCommand_cases hw
    · exact configure_effect hi h
    · exact command_effect hi hc h

/-- If an instruction answers a next state, it had one of the four effects. -/
theorem exec_effect {i : Instr} {s t : State} (h : exec i s = .next t) : Effect i s t := by
  cases i with
  | configure => exact configure_effect (.inl rfl) h
  | wrCommand w => exact wrCommand_effect h
  | clockPulse | latchPulse | write | read | readWrite | transfer | fill arg => exact command_effect (.inl rfl) rfl h
  | _ => exact .accessed rfl (access_effect rfl h)

/-! ### What a step can do -/

/-- If a step answers a next state, the engine idled, was reset, let an access outside the window pass, or ran the
instruction its next access decodes to. -/
theorem step_cases {s t : State} (h : step s = .next t) :
    (s.inputs.head? = none ∧ t = s) ∨
    (s.inputs.head? = some .powerOn ∧ t = powerOnReset s.dropInput) ∨
    (∃ a, s.inputs.head? = some (.access a) ∧
      (t = s.dropInput ∨ ∃ i, decode a = .ok i ∧ exec i s.dropInput = .next t)) := by
  unfold step nextInput at h
  split at h
  case h_1 hin => exact .inl ⟨hin, (Host.Outcome.next.inj h).symm⟩
  case h_2 hin => exact .inr (.inl ⟨hin, (Host.Outcome.next.inj h).symm⟩)
  case h_3 a hin =>
    refine .inr (.inr ⟨a, hin, ?_⟩)
    split at h
    case h_1 i hd => exact .inr ⟨i, hd, h⟩
    case h_2 e hd =>
      cases e with
      | outsideWindow => exact .inl (Host.Outcome.next.inj h).symm
      | notWordAccess | misalignedAccess => cases h

end Sys2Proof.Machine

/-! SUPPORT. What a command's events leave of the levels and directions of the lines (R319, R200). -/

namespace Sys2Proof.Machine

/-! ### Levels and directions of a trace cut in two -/

/-- Where the start value only matters until the first event that sets one, it is the fallback of the fold. -/
theorem foldl_or {α β : Type} {f : Option α → β → Option α} (hf : ∀ x y b, f (x.or y) b = (f x b).or y)
    (bs : List β) (x y : Option α) : bs.foldl f (x.or y) = (bs.foldl f x).or y := by
  induction bs generalizing x with
  | nil => rfl
  | cons b bs ih => rw [List.foldl_cons, List.foldl_cons, hf, ih]

theorem lineAfter_or (p : PinId) (x y : Option Level) (e : Event) :
    lineAfter p (x.or y) e = (lineAfter p x e).or y := by
  cases e with
  | drive q l => by_cases h : q = p <;> simp [lineAfter, h]
  | setDir | sample | hold => rfl

theorem dirAfter_or (p : PinId) (x y : Option PinDir) (e : Event) :
    dirAfter p (x.or y) e = (dirAfter p x e).or y := by
  cases e with
  | setDir q d => by_cases h : q = p <;> simp [dirAfter, h]
  | drive | sample | hold => rfl

theorem lineLevel_append (p : PinId) (as bs : List Event) :
    lineLevel p (as ++ bs) = (lineLevel p bs).or (lineLevel p as) := by
  rw [lineLevel, List.foldl_append]
  exact foldl_or (lineAfter_or p) bs none _

theorem lineDir_append (p : PinId) (as bs : List Event) :
    lineDir p (as ++ bs) = (lineDir p bs).or (lineDir p as) := by
  rw [lineDir, List.foldl_append]
  exact foldl_or (dirAfter_or p) bs none _

theorem lineLevel_append_low {p : PinId} {as bs : List Event} (ha : lineLevel p as ≠ some true)
    (hb : lineLevel p bs ≠ some true) : lineLevel p (as ++ bs) ≠ some true := by
  rw [lineLevel_append]
  cases h : lineLevel p bs with
  | none => exact ha
  | some l => rwa [h] at hb

theorem lineLevel_flatMap_low {α : Type} {p : PinId} {f : α → List Event}
    (h : ∀ x, lineLevel p (f x) ≠ some true) (xs : List α) : lineLevel p (xs.flatMap f) ≠ some true := by
  induction xs with
  | nil => simp [lineLevel]
  | cons x xs ih => exact lineLevel_append_low (h x) ih

theorem lineDir_flatMap_none {α : Type} {p : PinId} {f : α → List Event}
    (h : ∀ x, lineDir p (f x) = none) (xs : List α) : lineDir p (xs.flatMap f) = none := by
  induction xs with
  | nil => rfl
  | cons x xs ih => rw [List.flatMap_cons, lineDir_append, h, ih]; rfl

/-! ### The levels a command leaves -/

/-- A trace that ends by driving a line low leaves it low. -/
theorem lineLevel_lowered (p : PinId) (es : List Event) : lineLevel p (es ++ [.drive p false]) = some false := by
  simp [lineLevel, lineAfter]

theorem lineLevel_cpTrace (p : PinId) (s : State) : lineLevel p (cpTrace s) ≠ some true := by
  by_cases h : s.clockPin = p <;> simp [lineLevel, cpTrace, lineAfter, h]

theorem lineLevel_lpTrace (p : PinId) (s : State) : lineLevel p (lpTrace s) ≠ some true := by
  by_cases h : s.latchPin = p <;> simp [lineLevel, lpTrace, lineAfter, h]

theorem lineLevel_clock_outTrace (bit : Nat → Level) (s : State) :
    lineLevel s.clockPin (outTrace bit s) ≠ some true :=
  lineLevel_flatMap_low (fun i => by simp [lineLevel, cpTrace, lineAfter]) _

theorem lineLevel_inTrace (p : PinId) (s : State) (ss : List Level) : lineLevel p (inTrace s ss) ≠ some true :=
  lineLevel_flatMap_low (fun _ => by exact lineLevel_cpTrace p s) ss

theorem lineLevel_latch_out (bit : Nat → Level) (s : State) :
    lineLevel s.latchPin (outTrace bit s ++ lpTrace s) = some false := by
  simp [lpTrace, lineLevel, lineAfter]

theorem lineLevel_readTrace (p : PinId) (s : State) (ss : List Level) :
    lineLevel p (readTrace s ss) ≠ some true := by
  by_cases h : s.latchPin = p
  · subst h; rw [readTrace, lineLevel_lowered]; decide
  · have hraise : lineLevel p [.drive s.latchPin true] ≠ some true := by simp [lineLevel, lineAfter, h]
    have hlower : lineLevel p [.drive s.latchPin false] ≠ some true := by simp [lineLevel, lineAfter, h]
    exact lineLevel_append_low (lineLevel_append_low hraise (lineLevel_inTrace p s ss)) hlower

/-! ### The directions a command leaves -/

@[simp] theorem lineDir_cpTrace (p : PinId) (s : State) : lineDir p (cpTrace s) = none := rfl

@[simp] theorem lineDir_lpTrace (p : PinId) (s : State) : lineDir p (lpTrace s) = none := rfl

@[simp] theorem lineDir_outTrace (p : PinId) (bit : Nat → Level) (s : State) : lineDir p (outTrace bit s) = none :=
  lineDir_flatMap_none (fun _ => rfl) _

@[simp] theorem lineDir_inTrace (p : PinId) (s : State) (ss : List Level) : lineDir p (inTrace s ss) = none :=
  lineDir_flatMap_none (fun _ => rfl) _

@[simp] theorem lineDir_readTrace (p : PinId) (s : State) (ss : List Level) : lineDir p (readTrace s ss) = none := by
  rw [readTrace, lineDir_append, lineDir_append, lineDir_inTrace]; rfl

/-! ### Quiet traces -/

/-- The events leave neither the clock nor the latch line of `s` high, and set no direction. -/
structure Quiet (s : State) (es : List Event) : Prop where
  clock : lineLevel s.clockPin es ≠ some true
  latch : lineLevel s.latchPin es ≠ some true
  dir : ∀ p, lineDir p es = none

theorem quiet_nil (s : State) : Quiet s [] := ⟨nofun, nofun, fun _ => rfl⟩

theorem quiet_outLatched (bit : Nat → Level) (s : State) : Quiet s (outTrace bit s ++ lpTrace s) where
  clock := lineLevel_append_low (lineLevel_clock_outTrace bit s) (lineLevel_lpTrace _ s)
  latch := by rw [lineLevel_latch_out]; decide
  dir p := by simp [lineDir_append]

theorem quiet_readTrace (s : State) (ss : List Level) : Quiet s (readTrace s ss) :=
  ⟨lineLevel_readTrace _ s ss, lineLevel_readTrace _ s ss, fun p => lineDir_readTrace p s ss⟩

/-- The read half ends with the latch low, whatever the write half left on a shared line. -/
theorem quiet_hybridTrace (s : State) (ss : List Level) : Quiet s (hybridTrace s ss) where
  clock := lineLevel_append_low (lineLevel_clock_outTrace _ s) (lineLevel_readTrace _ s ss)
  latch := by
    rw [hybridTrace, readTrace, ← List.append_assoc, lineLevel_lowered]; decide
  dir p := by simp [hybridTrace, lineDir_append]

theorem quiet_commandTrace (c : Instr) (s : State) : Quiet s (commandTrace c s) := by
  cases c with
  | clockPulse => exact ⟨lineLevel_cpTrace _ s, lineLevel_cpTrace _ s, fun p => lineDir_cpTrace p s⟩
  | latchPulse => exact ⟨lineLevel_lpTrace _ s, lineLevel_lpTrace _ s, fun p => lineDir_lpTrace p s⟩
  | write | fill arg => exact quiet_outLatched _ s
  | read => exact quiet_readTrace s _
  | readWrite => exact quiet_hybridTrace s _
  | transfer =>
    unfold commandTrace transferTrace
    cases s.mode
    · exact quiet_outLatched _ s
    · exact quiet_readTrace s _
    · exact quiet_hybridTrace s _
  | _ => exact quiet_nil s

/-! ### The set-up of CONFIGURE -/

theorem lineLevel_wiredEvent_low {p : PinId} {e : Event} (h : lineLevel p [e] ≠ some true) (q : PinId) :
    lineLevel p (wiredEvent q e) ≠ some true := by
  unfold wiredEvent
  split
  · exact nofun
  · exact h

/-- CONFIGURE's set-up drives lines low only. -/
theorem lineLevel_setUpTrace (p : PinId) (s : State) : lineLevel p (setUpTrace s) ≠ some true := by
  have hdir (q : PinId) (d : PinDir) : lineLevel p (wiredEvent q (.setDir q d)) ≠ some true :=
    lineLevel_wiredEvent_low (by simp [lineLevel, lineAfter]) q
  have hlow (q : PinId) : lineLevel p (wiredEvent q (.drive q false)) ≠ some true := by
    apply lineLevel_wiredEvent_low
    by_cases h : q = p <;> simp [lineLevel, lineAfter, h]
  have hdirs := lineLevel_append_low (lineLevel_append_low (lineLevel_append_low
    (hdir s.clockPin .output) (hdir s.dataInPin .input)) (hdir s.dataOutPin .output)) (hdir s.latchPin .output)
  exact lineLevel_append_low (lineLevel_append_low (lineLevel_append_low hdirs (hlow _)) (hlow _)) (hlow _)

theorem lineDir_wiredEvent_drive (p q : PinId) (l : Level) : lineDir p (wiredEvent q (.drive q l)) = none := by
  unfold wiredEvent; split <;> rfl

theorem lineDir_wiredEvent_setDir {p : PinId} (hp : p ≠ 0#8) (q : PinId) (d : PinDir) :
    lineDir p (wiredEvent q (.setDir q d)) = if q = p then some d else none := by
  have hq : q.toNat = 0 → q ≠ p := fun h0 h => hp (h ▸ BitVec.eq_of_toNat_eq h0)
  unfold wiredEvent
  split
  · rw [if_neg (hq ‹_›)]; rfl
  · rfl

/-- R200, R267: of the roles a wired pin has, the last one CONFIGURE sets up gives its direction. -/
theorem lineDir_setUpTrace {p : PinId} (hp : p ≠ 0#8) (s : State) :
    lineDir p (setUpTrace s) =
      if s.latchPin = p then some .output else if s.dataOutPin = p then some .output
      else if s.dataInPin = p then some .input else if s.clockPin = p then some .output else none := by
  simp only [setUpTrace, lineDir_append, lineDir_wiredEvent_drive, lineDir_wiredEvent_setDir hp, Option.none_or]
  split_ifs <;> rfl

end Sys2Proof.Machine

/-! SUPPORT. The statements about the state: its lifecycle, who writes its registers, and its invariant. -/

namespace Sys2Proof.Machine

/-! ### Status and lifecycle -/

/-- A register access that runs no command leaves STATUS, the trace and the platform as they were. -/
theorem AccessEffect.frame {i : Instr} {s t : State} (h : AccessEffect i s t) :
    t.errCode = s.errCode ∧ t.configured = s.configured ∧ t.trace = s.trace ∧ t.numGpio = s.numGpio := by
  cases h with
  | staged _ ht => rw [ht]; exact ⟨rfl, rfl, rfl, rfl⟩
  | _ => exact ⟨rfl, rfl, rfl, rfl⟩

theorem commandWork_configured (c : Instr) (s : State) : (commandWork c s).configured = s.configured := by
  have h := commandWork_onlyCaptures c s .ok
  exact (congrArg State.configured h :)

theorem construct_configured (s : State) : (construct s).configured = true :=
  congrArg State.configured (construct_onlyCaptures s .ok)

/-- R21, R304: an instruction leaves CONFIGURED as it was, or is a CONFIGURE that succeeded. -/
theorem exec_configured {i : Instr} {s t : State} (h : exec i s = .next t) :
    t.configured = s.configured ∨
    (isConfigure i = true ∧ s.configured = false ∧ t.configured = true ∧ t.errCode = .ok) := by
  cases exec_effect h with
  | accessed hi ht =>
    obtain ⟨-, hcfg, -, -⟩ := ht.frame
    exact .inl hcfg
  | failed => exact .inl rfl
  | ran => exact .inl (commandWork_configured _ s)
  | constructed hi hs => exact .inr ⟨isConfigure_of_runs hi, hs, construct_configured s, rfl⟩

theorem exec_keeps_configured {i : Instr} {s t : State} (h : exec i s = .next t) (hs : s.configured = true) :
    t.configured = true := by
  obtain ht | ⟨-, -, ht, -⟩ := exec_configured h
  · rw [ht, hs]
  · exact ht

/-- Settles O12, from what a step and an instruction can do with CONFIGURED. -/
theorem lifecycleOneWay : Obligations.LifecycleOneWay := by
  refine ⟨fun i s t h hs ht => ?_, fun s t h hs hne => ?_, fun i s t => exec_keeps_configured,
    fun s t h hs ht => ?_, fun s t h hin => ?_⟩
  · obtain heq | ⟨hi, -, -, hok⟩ := exec_configured h
    · simp [heq, hs] at ht
    · exact ⟨hi, hok⟩
  · obtain heq | ⟨-, -, -, hok⟩ := exec_configured h
    · rw [heq, hs]
    · exact absurd hok hne
  · obtain ⟨-, rfl⟩ | ⟨hin, -⟩ | ⟨a, -, rfl | ⟨i, -, hx⟩⟩ := step_cases h
    · simp [hs] at ht
    · exact hin
    · simp [hs] at ht
    · simp [exec_keeps_configured hx hs] at ht
  · obtain ⟨hno, -⟩ | ⟨-, rfl⟩ | ⟨a, ha, -⟩ := step_cases h
    · simp [hin] at hno
    · rfl
    · simp [hin] at ha

/-- Settles O38: an operation that runs no command is a register access. -/
theorem onlyCommandsWriteStatus : Obligations.OnlyCommandsWriteStatus := by
  intro i s t hi h
  obtain ⟨herr, hcfg, -, -⟩ := (access_effect hi h).frame
  exact ⟨herr, hcfg⟩

/-! ### Who writes the registers -/

/-- `t` holds what `s` holds in MODE, WIDTH_BYTES and the pin registers. -/
def SameLocked (s t : State) : Prop :=
  t.mode = s.mode ∧ t.widthBytes = s.widthBytes ∧ t.clockPin = s.clockPin ∧ t.dataInPin = s.dataInPin ∧
    t.dataOutPin = s.dataOutPin ∧ t.latchPin = s.latchPin

/-- `t` holds what `s` holds in OUTPUT_BUFFER, the two delays and INVERT_OUTPUT. -/
def SameHost (s t : State) : Prop :=
  t.outputBuffer = s.outputBuffer ∧ t.clockEdgeDelay = s.clockEdgeDelay ∧
    t.latchPulseDelay = s.latchPulseDelay ∧ t.invertOutput = s.invertOutput

theorem SameLocked.of_onlyCaptures {s t : State} (h : OnlyCaptures s t) : SameLocked s t := by
  rw [h]; exact ⟨rfl, rfl, rfl, rfl, rfl, rfl⟩

theorem SameHost.of_onlyCaptures {s t : State} (h : OnlyCaptures s t) : SameHost s t := by
  rw [h]; exact ⟨rfl, rfl, rfl, rfl⟩

theorem construct_numGpio (s : State) : (construct s).numGpio = s.numGpio := by
  have h := construct_onlyCaptures s .ok
  exact (congrArg State.numGpio h :)

theorem construct_sameLocked (s : State) (e : ErrCode) : SameLocked s ((construct s).setErr e) :=
  SameLocked.of_onlyCaptures (s := { s with configured := true }) (construct_onlyCaptures s e)

/-- R24 to R29: no instruction changes the number of pins, nor, once CONFIGURED, a locked register. -/
theorem exec_keeps_locked {i : Instr} {s t : State} (h : exec i s = .next t) :
    t.numGpio = s.numGpio ∧ (s.configured = true → SameLocked s t) := by
  cases exec_effect h with
  | accessed _ ht =>
    obtain ⟨-, -, -, hnum⟩ := ht.frame
    refine ⟨hnum, fun hc => ?_⟩
    cases ht with
    | staged hs => simp [hs] at hc
    | _ => exact ⟨rfl, rfl, rfl, rfl, rfl, rfl⟩
  | failed => exact ⟨rfl, fun _ => ⟨rfl, rfl, rfl, rfl, rfl, rfl⟩⟩
  | @ran c =>
    have hf := commandWork_onlyCaptures c s .ok
    exact ⟨(congrArg State.numGpio hf :), fun _ => .of_onlyCaptures hf⟩
  | constructed => exact ⟨construct_numGpio s, fun _ => construct_sameLocked s .ok⟩

/-- Settles O40, which is what the four effects of an instruction do to the locked registers. -/
theorem lockedAfterConfigure : Obligations.LockedAfterConfigure :=
  fun _ _ _ => exec_keeps_locked

/-- R30 to R33: the operations that run a command change none of the registers only the host writes. -/
theorem command_keeps_host {i : Instr} {s t : State} (hi : isCommand i = true) (h : exec i s = .next t) :
    SameHost s t := by
  cases exec_effect h with
  | accessed hi' => simp [hi] at hi'
  | failed => exact ⟨rfl, rfl, rfl, rfl⟩
  | ran => exact .of_onlyCaptures (commandWork_onlyCaptures _ s .ok)
  | constructed => exact .of_onlyCaptures (s := { s with configured := true }) (construct_onlyCaptures s .ok)

/-- Settles O41, by what each effect does to the four registers. -/
theorem hostRegisters : Obligations.HostRegisters := by
  intro i s t h
  cases hi : isCommand i with
  | true =>
    obtain ⟨hout, hce, hlp, hinv⟩ := command_keeps_host hi h
    exact ⟨absurd hout, absurd hce, absurd hlp, absurd hinv⟩
  | false =>
    cases access_effect hi h with
    | staged _ ht => rw [ht]; exact ⟨absurd rfl, absurd rfl, absurd rfl, absurd rfl⟩
    | outputBuffer hi => exact ⟨fun _ => ⟨_, hi⟩, absurd rfl, absurd rfl, absurd rfl⟩
    | clockEdgeDelay hi => exact ⟨absurd rfl, fun _ => ⟨_, hi⟩, absurd rfl, absurd rfl⟩
    | latchPulseDelay hi => exact ⟨absurd rfl, absurd rfl, fun _ => ⟨_, hi⟩, absurd rfl⟩
    | invertOutput hi => exact ⟨absurd rfl, absurd rfl, absurd rfl, fun _ => ⟨_, hi⟩⟩
    | answered | ignored | inputBuffer => exact ⟨absurd rfl, absurd rfl, absurd rfl, absurd rfl⟩

/-! ### The high bits of OUTPUT_BUFFER -/

/-- R120: the bits shifted out are the W low ones. -/
theorem outTrace_congr {a b : Nat → Level} {s : State} (h : ∀ k, k < bitWidth s → a k = b k) :
    outTrace a s = outTrace b s := by
  unfold outTrace
  refine List.flatMap_congr fun i hi => ?_
  rw [h i (by simpa using hi)]

theorem writeTrace_lowBits {s : State} {v : Word} (h : ∀ k, k < bitWidth s → v.getLsbD k = s.outputBuffer.getLsbD k) :
    writeTrace { s with outputBuffer := v } = writeTrace s :=
  congrArg (· ++ lpTrace s) (outTrace_congr h)

theorem hybridTrace_lowBits {s : State} {v : Word} (h : ∀ k, k < bitWidth s → v.getLsbD k = s.outputBuffer.getLsbD k)
    (ss : List Level) : hybridTrace { s with outputBuffer := v } ss = hybridTrace s ss :=
  congrArg (· ++ readTrace s ss) (outTrace_congr h)

/-- R121, R160, R205: the events of a transfer depend on the W low bits of OUTPUT_BUFFER only. -/
theorem commandTrace_lowBits {s : State} {v : Word} {c : Instr}
    (h : ∀ k, k < bitWidth s → v.getLsbD k = s.outputBuffer.getLsbD k) :
    commandTrace c { s with outputBuffer := v } = commandTrace c s := by
  cases c with
  | write => exact writeTrace_lowBits h
  | readWrite => exact hybridTrace_lowBits h (answers s)
  | transfer =>
    unfold commandTrace transferTrace
    cases s.mode
    · exact writeTrace_lowBits h
    · rfl
    · exact hybridTrace_lowBits h (answers s)
  | _ => rfl

theorem afterCommand_setOutput (c : Instr) (s : State) (v : Word) :
    afterCommand c { s with outputBuffer := v } = { afterCommand c s with outputBuffer := v } := by
  cases c with
  | transfer => obtain ⟨_, _, m⟩ := s; cases m <;> rfl
  | _ => rfl

theorem commandWork_lowBits {s : State} {v : Word} (c : Instr)
    (h : ∀ k, k < bitWidth s → v.getLsbD k = s.outputBuffer.getLsbD k) :
    commandWork c { s with outputBuffer := v } = { commandWork c s with outputBuffer := v } := by
  simp only [commandWork, commandTrace_lowBits h, afterCommand_setOutput]
  rfl

/-- A command whose work commutes with a change of OUTPUT_BUFFER has the same outcome but for OUTPUT_BUFFER. -/
theorem runConfigured_setOutput {f : State → State} {s t u : State} {v : Word}
    (hf : f { s with outputBuffer := v } = { f s with outputBuffer := v })
    (ht : runConfigured f s = .next t) (hu : runConfigured f { s with outputBuffer := v } = .next u) :
    u = { t with outputBuffer := v } := by
  obtain ⟨hs, rfl⟩ | ⟨hs, rfl, -⟩ := runConfigured_inv ht <;>
    obtain ⟨hs', rfl⟩ | ⟨hs', rfl, -⟩ := runConfigured_inv hu
  · rfl
  · simp [hs] at hs'
  · simp [hs] at hs'
  · rw [hf]; rfl

/-- Settles O50: the work of the three commands depends on the W low bits only. -/
theorem highBitsNotDriven : Obligations.HighBitsNotDriven := by
  intro s v i t u hv hi ht hu
  have hcmd : isTransferOrPulse i = true := by obtain rfl | rfl | rfl := hi <;> rfl
  rw [exec_command hcmd] at ht hu
  exact runConfigured_setOutput (commandWork_lowBits i hv) ht hu

/-! ### Power-on reset -/

/-- Settles O10: the step is the reset of the state with the input taken. -/
theorem powerOnInput : Obligations.PowerOnInput := by
  intro s rest hin
  refine ⟨powerOnReset s.dropInput, by simp [step, nextInput, hin], ?_⟩
  have hrest : (powerOnReset s.dropInput).inputs = rest := by simp [powerOnReset, hin]
  have hstatus : statusWord (powerOnReset s.dropInput) = 0#32 := by
    change statusWord State.reset = 0#32
    decide
  exact ⟨hstatus, rfl, rfl, rfl, rfl, rfl, rfl, rfl, rfl, rfl, rfl, rfl, rfl, hrest, rfl, rfl, rfl⟩

/-! ### The invariant -/

theorem inv_of_powerOnReset (s : State) : Inv (powerOnReset s) := ⟨fun _ => rfl, nofun⟩

/-- A change that keeps the locked registers and adds a quiet trace on existing pins keeps the invariant; before
CONFIGURE it may add nothing. -/
theorem inv_of_quiet {s t : State} {es : List Event} (hI : Inv s) (hn : t.numGpio = s.numGpio)
    (hc : t.configured = s.configured) (hl : s.configured = true → SameLocked s t)
    (ht : t.trace = s.trace ++ es) (hnone : s.configured = false → es = []) (hq : Quiet s es)
    (hp : ∀ e ∈ es, eventPinExists s.numGpio e = true) : Inv t := by
  obtain ⟨hun, hcon⟩ := hI
  refine ⟨fun hf => ?_, fun hf => ?_⟩
  · rw [hc] at hf
    rw [ht, hun hf, hnone hf]; rfl
  · rw [hc] at hf
    obtain ⟨-, hwidth, hclk, hdin, hdout, hlat⟩ := hl hf
    obtain ⟨hw, hpins, hclkLow, hlatLow, hdirs⟩ := hcon hf
    have hdir (p : PinId) : lineDir p t.trace = lineDir p s.trace := by rw [ht, lineDir_append, hq.dir]; rfl
    simp only [hdir, hwidth, hclk, hdin, hdout, hlat]
    refine ⟨hw, fun e he p hpe => ?_, ?_, ?_, hdirs⟩
    · rw [ht, List.mem_append] at he
      rw [Present, hn]
      exact he.elim (hpins e · p hpe) fun he => (eventPinExists_iff _ e).mp (hp e he) p hpe
    · rw [ht]; exact lineLevel_append_low hclkLow hq.clock
    · rw [ht]; exact lineLevel_append_low hlatLow hq.latch

/-- CONFIGURE, run before anything was issued, establishes the configured half of the invariant. -/
theorem inv_of_construct {s : State} (htrace : s.trace = []) (hw : s.widthBytes.toNat ≤ 4)
    (hp : ∀ e ∈ configureTrace s, eventPinExists s.numGpio e = true) : Inv ((construct s).setErr .ok) := by
  have ht : ((construct s).setErr .ok).trace = setUpTrace s ++ commandTrace .transfer s := by
    rw [State.setErr_trace, construct_trace, htrace]; rfl
  have hq : Quiet s (commandTrace .transfer s) := quiet_commandTrace .transfer s
  have hdir (p : PinId) : lineDir p (setUpTrace s ++ commandTrace .transfer s) = lineDir p (setUpTrace s) := by
    rw [lineDir_append, hq.dir]; rfl
  have hnum : ((construct s).setErr .ok).numGpio = s.numGpio := construct_numGpio s
  obtain ⟨-, hwidth, hclk, hdin, hdout, hlat⟩ := construct_sameLocked s .ok
  refine ⟨fun h => ?_, fun _ => ?_⟩
  · rw [State.setErr_configured, construct_configured] at h
    cases h
  simp only [Present, ht, hdir, hnum, hwidth, hclk, hdin, hdout, hlat]
  refine ⟨hw, fun e he => (eventPinExists_iff _ e).mp (hp e he),
    lineLevel_append_low (lineLevel_setUpTrace _ s) hq.clock,
    lineLevel_append_low (lineLevel_setUpTrace _ s) hq.latch,
    fun h => ?_, fun h => ?_, fun h hin => ?_, fun h hout hlat => ?_⟩ <;> rw [lineDir_setUpTrace h]
  · simp
  · simp
  · simp [Ne.symm hin]
  · simp [Ne.symm hout, Ne.symm hlat]

/-- Every instruction keeps the invariant: what it adds to the trace is quiet, or it is the CONFIGURE that starts it. -/
theorem exec_inv {i : Instr} {s t : State} (hI : Inv s) (h : exec i s = .next t) : Inv t := by
  obtain ⟨hnum, hlocked⟩ := exec_keeps_locked h
  cases exec_effect h with
  | accessed _ ht =>
    obtain ⟨-, hcfg, htrace, -⟩ := ht.frame
    exact inv_of_quiet hI hnum hcfg hlocked (by simpa using htrace) (fun _ => rfl) (quiet_nil s) nofun
  | failed => exact inv_of_quiet hI hnum rfl hlocked (List.append_nil _).symm (fun _ => rfl) (quiet_nil s) nofun
  | @ran c _ _ hs hp =>
    exact inv_of_quiet hI hnum (commandWork_configured c s) hlocked (commandWork_trace c s)
      (fun hf => by simp [hs] at hf) (quiet_commandTrace c s) hp
  | constructed _ hs hw hp => exact inv_of_construct (hI.1 hs) hw hp

/-- Settles O55, case by case over what a step can do. -/
theorem invStep : Obligations.InvStep := by
  intro s t hI h
  obtain ⟨-, rfl⟩ | ⟨-, rfl⟩ | ⟨a, -, rfl | ⟨i, -, hx⟩⟩ := step_cases h
  · exact hI
  · exact inv_of_powerOnReset _
  · exact hI
  · exact exec_inv (s := s.dropInput) hI hx

end Sys2Proof.Machine

/-! SUPPORT. The statements about the window and the step (20_memory.md R50 to R52): which accesses are instructions,
and what a step does with the others. -/

namespace Sys2Proof.Machine

/-! ### The decoder, case by case -/

theorem decode_outside {a : Access} (h : 64 ≤ a.off) : decode a = .error .outsideWindow := if_pos h

theorem decode_notWord {a : Access} (h : a.off < 64) (hsize : a.size ≠ 4) : decode a = .error .notWordAccess := by
  simp [decode, windowBytes, Nat.not_le.mpr h, hsize]

theorem decode_misaligned {a : Access} (h : a.off < 64) (hsize : a.size = 4) (hoff : a.off % 4 ≠ 0) :
    decode a = .error .misalignedAccess := by
  simp [decode, windowBytes, Nat.not_le.mpr h, hsize, hoff]

/-- R51: each of the 16 word slots of the window has a read. -/
theorem decodeRead_of_lt {slot : Nat} (h : slot < 16) : ∃ i, decodeRead slot = some i := by
  interval_cases slot <;> exact ⟨_, rfl⟩

/-- R51: each of the 16 word slots of the window has a write. -/
theorem decodeWrite_of_lt {slot : Nat} (h : slot < 16) (v : Word) : ∃ i, decodeWrite slot v = some i := by
  interval_cases slot <;> exact ⟨_, rfl⟩

theorem decode_aligned {a : Access} (h : a.off < 64) (hsize : a.size = 4) (hoff : a.off % 4 = 0) :
    ∃ i, decode a = .ok i := by
  have hslot : a.off / 4 < 16 := by omega
  obtain ⟨ir, hr⟩ := decodeRead_of_lt hslot
  obtain ⟨iw, hw⟩ := decodeWrite_of_lt hslot a.data
  cases hrw : a.rw with
  | read => exact ⟨ir, by simp [decode, windowBytes, Nat.not_le.mpr h, hsize, hoff, hrw, hr]⟩
  | write => exact ⟨iw, by simp [decode, windowBytes, Nat.not_le.mpr h, hsize, hoff, hrw, hw]⟩

/-- R52: an access of the window that is not a 32-bit one at a word-aligned offset is rejected for the one or the
other. -/
theorem decode_unaligned {a : Access} (h : a.off < 64) (ha : ¬ (a.size = 4 ∧ a.off % 4 = 0)) :
    decode a = .error .notWordAccess ∨ decode a = .error .misalignedAccess := by
  by_cases hsize : a.size = 4
  · exact .inr (decode_misaligned h hsize fun hoff => ha ⟨hsize, hoff⟩)
  · exact .inl (decode_notWord h hsize)

/-! ### The step, when an access comes next -/

theorem step_of_decode_ok {s : State} {a : Access} {rest : List Input} {i : Instr}
    (hin : s.inputs = .access a :: rest) (hd : decode a = .ok i) : step s = exec i { s with inputs := rest } := by
  simp [step, nextInput, State.dropInput, hin, hd]

theorem step_of_decode_error {s : State} {a : Access} {rest : List Input} {e : DecodeError}
    (hin : s.inputs = .access a :: rest) (hd : decode a = .error e) :
    step s = rejectAccess a e { s with inputs := rest } := by
  simp [step, nextInput, State.dropInput, hin, hd]

/-- Settles O9: it is the step's case of an access that decodes. -/
theorem stepRunsInstruction : Obligations.StepRunsInstruction :=
  fun _ _ _ _ => step_of_decode_ok

/-- Settles O7, by the cases of the decoder inside the window. -/
theorem onlyAlignedWords : Obligations.OnlyAlignedWords := by
  intro a h
  refine ⟨⟨fun ⟨i, hi⟩ => ?_, fun ⟨hsize, hoff⟩ => decode_aligned h hsize hoff⟩, fun s rest hin ha => ?_⟩
  · by_contra ha
    obtain hd | hd := decode_unaligned h ha <;> simp [hd] at hi
  · obtain hd | hd := decode_unaligned h ha
    · exact ⟨_, step_of_decode_error hin hd, .inl rfl⟩
    · exact ⟨_, step_of_decode_error hin hd, .inr rfl⟩

/-- Settles O8: the address decides on both sides of the window, and an access outside it is taken and no more. -/
theorem windowOnly : Obligations.WindowOnly :=
  ⟨fun _ _ _ hlo hhi => if_pos ⟨hlo, hhi⟩,
    fun _ _ _ _ hout => if_neg fun ⟨hlo, hhi⟩ => hout.elim (Nat.not_lt.mpr hlo) (Nat.not_le.mpr hhi),
    fun _ _ _ hin hoff => step_of_decode_error hin (decode_outside hoff)⟩

end Sys2Proof.Machine

/-! SUPPORT. Which pins the events of a command name (R55), and that a missing one is the only ground of refusal. -/

namespace Sys2Proof.Machine

/-! ### Traces on existing pins -/

/-- R55: every event of the trace is on a pin that exists on the platform of `s`. -/
def OnPins (s : State) (es : List Event) : Prop := ∀ e ∈ es, eventPinExists s.numGpio e = true

theorem OnPins.present {s : State} {es : List Event} (h : OnPins s es) : ∀ e ∈ es, ∀ p ∈ eventPin e, Present s p :=
  fun e he => (eventPinExists_iff _ e).mp (h e he)

@[simp] theorem onPins_nil (s : State) : OnPins s [] := nofun

@[simp] theorem onPins_cons (s : State) (e : Event) (es : List Event) :
    OnPins s (e :: es) ↔ (∀ p ∈ eventPin e, Present s p) ∧ OnPins s es := by
  simp [OnPins, eventPinExists_iff]

@[simp] theorem onPins_append (s : State) (as bs : List Event) :
    OnPins s (as ++ bs) ↔ OnPins s as ∧ OnPins s bs := by
  simp [OnPins, or_imp, forall_and]

theorem onPins_flatMap {α : Type} (s : State) (f : α → List Event) (xs : List α) :
    OnPins s (xs.flatMap f) ↔ ∀ x ∈ xs, OnPins s (f x) := by
  simp only [OnPins, List.mem_flatMap]
  exact ⟨fun h x hx e he => h e ⟨x, hx, he⟩, fun h e ⟨x, hx, he⟩ => h x hx e he⟩

@[simp] theorem onPins_cpTrace (s : State) : OnPins s (cpTrace s) ↔ Present s s.clockPin := by
  simp [cpTrace, eventPin]

@[simp] theorem onPins_lpTrace (s : State) : OnPins s (lpTrace s) ↔ Present s s.latchPin := by
  simp [lpTrace, eventPin]

/-! ### The pins of the loops and transfers -/

/-- Where every bit position needs the same pins, a loop needs them if it has a bit position at all. -/
theorem onPins_loop {α : Type} {s : State} {f : α → List Event} {P : Prop} (hf : ∀ x, OnPins s (f x) ↔ P)
    {xs : List α} (hxs : xs.length = bitWidth s) :
    OnPins s (xs.flatMap f) ↔ (s.widthBytes.toNat ≠ 0 → P) := by
  have hne : (∃ x, x ∈ xs) ↔ s.widthBytes.toNat ≠ 0 := by
    rw [← List.length_pos_iff_exists_mem, hxs, bitWidth]; omega
  rw [onPins_flatMap, ← hne, exists_imp]
  simp only [hf]

theorem onPins_outTrace (bit : Nat → Level) (s : State) :
    OnPins s (outTrace bit s) ↔ (s.widthBytes.toNat ≠ 0 → Present s s.clockPin ∧ Present s s.dataOutPin) :=
  onPins_loop (fun i => by simp [eventPin, and_comm]) (by simp)

theorem onPins_inTrace {s : State} {ss : List Level} (hss : ss.length = bitWidth s) :
    OnPins s (inTrace s ss) ↔ (s.widthBytes.toNat ≠ 0 → Present s s.clockPin ∧ Present s s.dataInPin) :=
  onPins_loop (fun l => by simp [eventPin, and_comm]) hss

/-- R121, R180: bits shifted out and the latch pulse need the pins of a serial-out. -/
theorem onPins_outLatched (bit : Nat → Level) (s : State) : OnPins s (outTrace bit s ++ lpTrace s) ↔ WritePins s := by
  rw [onPins_append, onPins_outTrace, onPins_lpTrace, and_comm]

theorem onPins_writeTrace (s : State) : OnPins s (writeTrace s) ↔ WritePins s := onPins_outLatched _ s

theorem onPins_readTrace {s : State} {ss : List Level} (hss : ss.length = bitWidth s) :
    OnPins s (readTrace s ss) ↔ ReadPins s := by
  have hlatch (l : Level) : OnPins s [.drive s.latchPin l] ↔ Present s s.latchPin := by simp [eventPin]
  rw [readTrace, onPins_append, onPins_append, hlatch, hlatch, onPins_inTrace hss]
  tauto

theorem onPins_hybridTrace {s : State} {ss : List Level} (hss : ss.length = bitWidth s) :
    OnPins s (hybridTrace s ss) ↔ WritePins s ∧ ReadPins s := by
  rw [hybridTrace, onPins_append, onPins_outTrace, onPins_readTrace hss]
  tauto

theorem onPins_transferTrace {s : State} {ss : List Level} (hss : ss.length = bitWidth s) :
    OnPins s (transferTrace s ss) ↔ TransferPins s := by
  unfold transferTrace TransferPins
  cases s.mode
  · simpa using onPins_writeTrace s
  · simpa using onPins_readTrace hss
  · simpa using onPins_hybridTrace hss

/-! ### The pins of CONFIGURE -/

theorem onPins_wiredEvent {s : State} {p : PinId} {e : Event} (he : eventPin e = some p) :
    OnPins s (wiredEvent p e) ↔ (p.toNat ≠ 0 → Present s p) := by
  by_cases hp : p.toNat = 0 <;> simp [wiredEvent, hp, he]

theorem onPins_setUpTrace (s : State) :
    OnPins s (setUpTrace s) ↔
      ∀ p ∈ [s.clockPin, s.dataInPin, s.dataOutPin, s.latchPin], p.toNat ≠ 0 → Present s p := by
  have hdir (p : PinId) (d : PinDir) : OnPins s (wiredEvent p (.setDir p d)) ↔ (p.toNat ≠ 0 → Present s p) :=
    onPins_wiredEvent rfl
  have hlow (p : PinId) (l : Level) : OnPins s (wiredEvent p (.drive p l)) ↔ (p.toNat ≠ 0 → Present s p) :=
    onPins_wiredEvent rfl
  simp only [setUpTrace, onPins_append, hdir, hlow, List.forall_mem_cons, List.not_mem_nil]
  tauto

theorem onPins_configureTrace (s : State) : OnPins s (configureTrace s) ↔ ConfigurePins s := by
  have ht : OnPins s (commandTrace .transfer s) ↔ TransferPins s := onPins_transferTrace (answers_length s)
  rw [configureTrace, onPins_append, onPins_setUpTrace, ht, and_comm]

/-! ### Commands that are refused -/

/-- R55, log 6: work that issues an event on a missing pin is refused, for the pin of one of its events. -/
theorem commit_refused {s : State} {f : State → State} {es : List Event} (h : (f s).trace = s.trace ++ es)
    (hes : ¬ OnPins s es) :
    ∃ e ∈ es, ∃ p, eventPin e = some p ∧ s.numGpio ≤ p.toNat ∧ commit s f = .refused (.noSuchPin p) := by
  have hc := commit_cases s f
  rw [issued_eq h] at hc
  exact hc.resolve_left fun ⟨_, hp⟩ => hes hp

theorem command_refused {c : Instr} (hc : isTransferOrPulse c = true) {s : State} (hs : s.configured = true)
    (hes : ¬ OnPins s (commandTrace c s)) :
    ∃ e ∈ commandTrace c s, ∃ p, eventPin e = some p ∧ s.numGpio ≤ p.toNat ∧
      exec c s = .refused (.noSuchPin p) := by
  rw [exec_command hc, runConfigured, if_pos hs]
  exact commit_refused (commandWork_trace c s) hes

theorem command_refusedForPin {c : Instr} (hc : isTransferOrPulse c = true) {s : State} (hs : s.configured = true)
    (hes : ¬ OnPins s (commandTrace c s)) : RefusedForPin c s := by
  obtain ⟨_, _, p, _, hp, h⟩ := command_refused hc hs hes
  exact ⟨p, h, hp⟩

/-- A command all whose events are on one pin is refused for that pin. -/
theorem command_refused_onlyPin {c : Instr} (hc : isTransferOrPulse c = true) {s : State} (hs : s.configured = true)
    {q : PinId} (hq : ∀ e ∈ commandTrace c s, ∀ p ∈ eventPin e, p = q)
    (hes : ¬ OnPins s (commandTrace c s)) : exec c s = .refused (.noSuchPin q) := by
  obtain ⟨e, he, p, hep, _, h⟩ := command_refused hc hs hes
  rw [h, hq e he p hep]

theorem configure_refusedForPin {s : State} (hs : s.configured = false) (hw : s.widthBytes.toNat ≤ 4)
    (hes : ¬ OnPins s (configureTrace s)) : RefusedForPin .configure s := by
  obtain ⟨_, _, p, _, hp, h⟩ := commit_refused (construct_trace s) hes
  refine ⟨p, ?_, hp⟩
  obtain ⟨hs', -⟩ | ⟨-, hw', -⟩ | ⟨-, -, hrun⟩ := runConfigure_cases s
  · simp [hs] at hs'
  · omega
  · exact hrun.trans h

/-! ### What an instruction answers -/

/-- The result is a next state, or the refusal of a pin the platform of `s` does not have. -/
def CompletesOrNoPin (s : State) (r : Result) : Prop :=
  (∃ t, r = .next t) ∨ ∃ p, r = .refused (.noSuchPin p) ∧ s.numGpio ≤ p.toNat

theorem commit_completesOrNoPin (s : State) (f : State → State) : CompletesOrNoPin s (commit s f) := by
  obtain ⟨h, -⟩ | ⟨_, -, p, -, hp, h⟩ := commit_cases s f
  · exact .inl ⟨_, h⟩
  · exact .inr ⟨p, h, hp⟩

theorem command_completesOrNoPin {c : Instr} (hc : isTransferOrPulse c = true) (s : State) :
    CompletesOrNoPin s (exec c s) := by
  rw [exec_command hc]
  obtain ⟨-, h⟩ | ⟨-, h⟩ := runConfigured_cases (commandWork c) s
  · exact .inl ⟨_, h⟩
  · rw [h]; exact commit_completesOrNoPin s _

theorem configure_completesOrNoPin (s : State) : CompletesOrNoPin s (exec .configure s) := by
  obtain ⟨-, h⟩ | ⟨-, -, h⟩ | ⟨-, -, h⟩ := runConfigure_cases s
  · exact .inl ⟨_, h⟩
  · exact .inl ⟨_, h⟩
  · exact (congrArg (CompletesOrNoPin s) h).mpr (commit_completesOrNoPin s construct)

theorem wrCommand_completesOrNoPin (w : Word) (s : State) : CompletesOrNoPin s (exec (.wrCommand w) s) := by
  rw [exec_wrCommand]
  cases hw : decodeCommand w with
  | none => exact .inl ⟨_, rfl⟩
  | some c =>
    obtain ⟨rfl, -⟩ | hc := decodeCommand_cases hw
    · exact configure_completesOrNoPin s
    · exact command_completesOrNoPin hc s

/-- R53: a register access that runs no command always completes. -/
theorem access_completes {i : Instr} (hi : isCommand i = false) (s : State) : ∃ t, exec i s = .next t := by
  cases i with
  | configure | clockPulse | latchPulse | write | read | readWrite | transfer | fill arg | wrCommand v => cases hi
  | _ => exact ⟨_, rfl⟩

theorem exec_completesOrNoPin (i : Instr) (s : State) : CompletesOrNoPin s (exec i s) := by
  cases i with
  | configure => exact configure_completesOrNoPin s
  | wrCommand w => exact wrCommand_completesOrNoPin w s
  | clockPulse | latchPulse | write | read | readWrite | transfer | fill arg => exact command_completesOrNoPin rfl s
  | _ => exact .inl (access_completes rfl s)

theorem exec_refused {i : Instr} {s : State} {r : Refusal} (h : exec i s = .refused r) :
    isCommand i = true ∧ ∃ p, r = .noSuchPin p ∧ s.numGpio ≤ p.toNat := by
  refine ⟨?_, ?_⟩
  · by_contra hi
    obtain ⟨t, ht⟩ := access_completes (Bool.eq_false_of_not_eq_true hi) s
    cases h.symm.trans ht
  · obtain ⟨t, ht⟩ | ⟨p, hp, hlt⟩ := exec_completesOrNoPin i s
    · cases h.symm.trans ht
    · cases h.symm.trans hp
      exact ⟨p, rfl, hlt⟩

/-- Settles O36: a command's events are on existing pins exactly if the pins it needs exist. -/
theorem missingPinRefused : Obligations.MissingPinRefused := by
  refine ⟨fun i s r => exec_refused, fun s hs => ⟨fun h => ?_, fun h => ?_, fun h => ⟨?_, fun arg => ?_⟩,
    fun h => ?_, fun h => ?_, fun h => ?_⟩, fun s hs hw h => ?_⟩
  · exact command_refused_onlyPin rfl hs (by simp [commandTrace, cpTrace, eventPin]) (mt (onPins_cpTrace s).mp h)
  · exact command_refused_onlyPin rfl hs (by simp [commandTrace, lpTrace, eventPin]) (mt (onPins_lpTrace s).mp h)
  · exact command_refusedForPin rfl hs (mt (onPins_writeTrace s).mp h)
  · exact command_refusedForPin rfl hs (mt (onPins_outLatched _ s).mp h)
  · exact command_refusedForPin rfl hs (mt (onPins_readTrace (answers_length s)).mp h)
  · exact command_refusedForPin rfl hs (mt (onPins_hybridTrace (answers_length s)).mp h)
  · exact command_refusedForPin rfl hs (mt (onPins_transferTrace (answers_length s)).mp h)
  · exact configure_refusedForPin hs hw (mt (onPins_configureTrace s).mp h)

/-- Settles O37: the only refusal names a pin at or above NUM_GPIO, and no pin number reaches 256. -/
theorem everythingCompletes : Obligations.EverythingCompletes := by
  intro i s hn
  refine (exec_completesOrNoPin i s).resolve_right fun ⟨p, _, hp⟩ => ?_
  have := p.isLt
  omega

end Sys2Proof.Machine

/-! SUPPORT. The statements about the events an instruction issues and the answers it takes (R55 to R61). -/

namespace Sys2Proof.Machine

/-- Settles O43, by what each effect of an instruction adds to the trace. -/
theorem traceOnlyGrows : Obligations.TraceOnlyGrows := by
  intro i s t h
  cases exec_effect h with
  | accessed _ ht =>
    obtain ⟨-, -, htrace, -⟩ := ht.frame
    exact ⟨[], by simpa using htrace, nofun⟩
  | failed => exact ⟨[], (List.append_nil _).symm, nofun⟩
  | @ran c _ _ _ hp => exact ⟨commandTrace c s, commandWork_trace c s, OnPins.present hp⟩
  | constructed _ _ _ hp => exact ⟨configureTrace s, construct_trace s, OnPins.present hp⟩

/-- Settles O44: the events of a command other than CONFIGURE set no direction. -/
theorem onlyConfigureSetsDirections : Obligations.OnlyConfigureSetsDirections := by
  intro i s t h hi p
  cases exec_effect h with
  | accessed _ ht =>
    obtain ⟨-, -, htrace, -⟩ := ht.frame
    rw [htrace]
  | failed => rfl
  | @ran c =>
    rw [State.setErr_trace, commandWork_trace, lineDir_append, (quiet_commandTrace c s).dir p, Option.none_or]
  | constructed hruns => simp [isConfigure_of_runs hruns] at hi

/-- A command other than CONFIGURE that completes while CONFIGURED did its work and ended with code 0. -/
theorem command_ran {c : Instr} (hc : isTransferOrPulse c = true) {s t : State} (hs : s.configured = true)
    (h : exec c s = .next t) : t = (commandWork c s).setErr .ok := by
  rw [exec_command hc] at h
  obtain ⟨hs', -⟩ | ⟨-, ht, -⟩ := runConfigured_inv h
  · simp [hs] at hs'
  · exact ht

/-- Settles O26: the work of the two commands, in closed form, takes the W answers to come. -/
theorem answersInOrder : Obligations.AnswersInOrder :=
  fun _ _ hs => ⟨command_ran (c := .read) rfl hs, command_ran (c := .readWrite) rfl hs⟩

/-- A change `g` of the state that keeps CONFIGURED and commutes with a command's work and with the code it ends with
commutes with the command. -/
theorem runConfigured_commutes {f g : State → State} {s t u : State} (hcfg : (g s).configured = s.configured)
    (herr : ∀ r e, (g r).setErr e = g (r.setErr e)) (hf : f (g s) = g (f s))
    (ht : runConfigured f s = .next t) (hu : runConfigured f (g s) = .next u) : u = g t := by
  obtain ⟨hs, rfl⟩ | ⟨hs, rfl, -⟩ := runConfigured_inv ht <;>
    obtain ⟨hs', rfl⟩ | ⟨hs', rfl, -⟩ := runConfigured_inv hu
  · exact herr s _
  · simp [hcfg, hs] at hs'
  · simp [hcfg, hs] at hs'
  · rw [hf, herr]

/-- Settles O53: a read transfer does not look at INVERT_OUTPUT. -/
theorem readIgnoresInversion : Obligations.ReadIgnoresInversion := by
  intro s t u b ht hu
  rw [exec_command rfl] at ht hu
  exact runConfigured_commutes (g := fun s => { s with invertOutput := b }) rfl (fun _ _ => rfl) rfl ht hu

end Sys2Proof.Machine

/-! SUPPORT. The statements about the encoding (30_encoding.md): command words, and accesses and their instructions. -/

namespace Sys2Proof.Machine

/-! ### Command words -/

theorem commandWord_eq {w : Word} {opc : BitVec 8} {arg : BitVec 24} (hopc : (commandOpc w).toNat = opc.toNat)
    (harg : commandArg w = arg) : commandWord opc arg = w := by
  rw [← BitVec.eq_of_toNat_eq hopc, ← harg, commandWord_fields]

/-- R81: the word that selects a command is the one the command is encoded as. -/
theorem encode_of_decodeCommand {w : Word} {c : Instr} (h : decodeCommand w = some c) :
    encode c = busWrite 0x00 w := by
  unfold decodeCommand at h
  split at h
  case isTrue hopc =>
    cases h
    exact congrArg (busWrite 0x00) (commandWord_eq (congrArg BitVec.toNat hopc) rfl)
  case isFalse =>
    split at h
    case isTrue harg =>
      split at h <;> cases h
      all_goals exact congrArg (busWrite 0x00) (commandWord_eq ‹_› harg)
    case isFalse => cases h

/-- R81: the word a command is encoded as selects it. -/
theorem decodeCommand_encode {c : Instr} (hc : c = .configure ∨ isTransferOrPulse c = true) :
    decodeCommand (encode c).data = some c := by
  obtain rfl | hc := hc
  · rfl
  · cases c with
    | fill arg => simp [encode, busWrite, decodeCommand]
    | clockPulse | latchPulse | write | read | readWrite | transfer => rfl
    | _ => cases hc

theorem decodeCommand_eq_some_iff {c : Instr} (hc : c = .configure ∨ isTransferOrPulse c = true) (w : Word) :
    decodeCommand w = some c ↔ w = (encode c).data := by
  refine ⟨fun h => ?_, fun h => ?_⟩
  · rw [encode_of_decodeCommand h]; rfl
  · rw [h, decodeCommand_encode hc]

/-- R84: the words that select no command. -/
theorem decodeCommand_eq_none_iff (w : Word) :
    decodeCommand w = none ↔ ¬ (1 ≤ w.toNat ∧ w.toNat ≤ 7) ∧ w.toNat % 256 ≠ 8 := by
  rw [← Option.not_isSome_iff_eq_none, decodeCommand_isSome]
  simp [legalCommandWord]
  omega

/-- R81: the mask 0x000000FF leaves OPC. -/
theorem and_opcMask_eq_iff (w : Word) : w &&& 0x000000FF#32 = 0x00000008#32 ↔ w.toNat % 256 = 8 := by
  rw [← BitVec.toNat_inj, BitVec.toNat_and]
  exact Eq.congr_left (Nat.and_two_pow_sub_one_eq_mod w.toNat 8)

theorem decodeCommand_fill_iff (w : Word) :
    decodeCommand w = some (.fill (commandArg w)) ↔ w.toNat % 256 = 8 := by
  rw [decodeCommand_eq_some_iff (.inr rfl), ← commandOpc_toNat]
  refine ⟨fun h => ?_, fun h => (commandWord_eq h rfl).symm⟩
  rw [h]
  exact congrArg BitVec.toNat (commandOpc_commandWord 0x08#8 _)

/-- Settles O3: under its mask, a command's match is the word it is encoded as. -/
theorem commandMatchMask : Obligations.CommandMatchMask := by
  intro w
  have hmask : w &&& 0xFFFFFFFF#32 = w := BitVec.and_allOnes
  have hiff {c : Instr} (hc : isTransferOrPulse c = true) := decodeCommand_eq_some_iff (.inr hc) w
  rw [hmask, ne_eq, and_opcMask_eq_iff]
  exact ⟨decodeCommand_eq_some_iff (.inl rfl) w, hiff rfl, hiff rfl, hiff rfl, hiff rfl, hiff rfl, hiff rfl,
    decodeCommand_fill_iff w, decodeCommand_eq_none_iff w⟩

/-- Settles O5: such a word selects no command, and a write of it to COMMAND raises the error. -/
theorem illegalWord : Obligations.IllegalWord := by
  intro w s hw
  have hnone : decodeCommand w = none := (decodeCommand_eq_none_iff w).mpr (by omega)
  refine ⟨hnone, ?_⟩
  rw [exec_wrCommand, hnone]; rfl

/-! ### Accesses -/

/-- R51: a 32-bit read at a word-aligned offset of the window reads the word slot there. -/
theorem decode_read_iff {off : Nat} (h : off % 4 = 0 ∧ off < 64) (v : Word) (i : Instr) :
    decode ⟨.read, 4, off, v⟩ = .ok i ↔ decodeRead (off / 4) = some i := by
  obtain ⟨hoff, hin⟩ := h
  simp only [decode, windowBytes, Nat.not_le.mpr hin, hoff, ne_eq, not_true_eq_false, if_false]
  cases decodeRead (off / 4) <;> simp

/-- R51: a 32-bit write at a word-aligned offset of the window writes the word slot there. -/
theorem decode_write_iff {off : Nat} (h : off % 4 = 0 ∧ off < 64) (v : Word) (i : Instr) :
    decode (busWrite off v) = .ok i ↔ decodeWrite (off / 4) v = some i := by
  obtain ⟨hoff, hin⟩ := h
  simp only [decode, busWrite, windowBytes, Nat.not_le.mpr hin, hoff, ne_eq, not_true_eq_false, if_false]
  cases decodeWrite (off / 4) v <;> simp

theorem decode_write_command (w : Word) :
    decode (busWrite 0x00 w) = .ok ((decodeCommand w).getD (.wrCommand w)) :=
  (decode_write_iff (by decide) w _).mpr rfl

theorem decode_encode_command {c : Instr} (hc : c = .configure ∨ isTransferOrPulse c = true) :
    decode (encode c) = .ok c := by
  have hw : decodeCommand (encode c).data = some c := decodeCommand_encode hc
  rw [encode_of_decodeCommand hw, decode_write_command, hw]; rfl

theorem wellFormed_wrCommand_iff (w : Word) : WellFormed (.wrCommand w) = true ↔ decodeCommand w = none := by
  rw [← Option.not_isSome_iff_eq_none, decodeCommand_isSome]
  simp [WellFormed]

/-- Settles O1: a command by its word, the write of an illegal word by its spelling, any other access by its slot. -/
theorem decodeEncode : Obligations.DecodeEncode := by
  intro i hi
  cases i with
  | configure => exact decode_encode_command (.inl rfl)
  | clockPulse | latchPulse | write | read | readWrite | transfer | fill arg => exact decode_encode_command (.inr rfl)
  | wrCommand w =>
    have hw : decodeCommand w = none := (wellFormed_wrCommand_iff w).mp hi
    have hd := decode_write_command w
    rw [hw] at hd
    exact hd
  | rdCommand | rdStatus | rdMode | rdWidthBytes | rdClockPin | rdDataInPin | rdDataOutPin | rdLatchPin
  | rdClockEdgeDelay | rdLatchPulseDelay | rdInvertOutput | rdOutputBuffer | rdInputBuffer | rdReserved34
  | rdReserved38 | rdReserved3C => exact (decode_read_iff (by decide) _ _).mpr rfl
  | _ => exact (decode_write_iff (by decide) _ _).mpr rfl

/-- R80, R51, R52: an access that decodes is a 32-bit one at an aligned offset of the window. -/
theorem decode_ok_aligned {a : Access} {i : Instr} (h : decode a = .ok i) :
    a.size = 4 ∧ a.off % 4 = 0 ∧ a.off < 64 := by
  have hin : a.off < 64 := by
    by_contra hout
    simp [decode_outside (Nat.not_lt.mp hout)] at h
  obtain ⟨hsize, hoff⟩ := (onlyAlignedWords a hin).1.mp ⟨i, h⟩
  exact ⟨hsize, hoff, hin⟩

theorem encode_of_decodeRead {slot : Nat} {i : Instr} (h : decodeRead slot = some i) :
    encode i = busRead (4 * slot) ∧ WellFormed i = true := by
  unfold decodeRead at h
  split at h <;> cases h <;> exact ⟨rfl, rfl⟩

theorem wellFormed_of_decodeCommand {w : Word} {c : Instr} (h : decodeCommand w = some c) : WellFormed c = true := by
  obtain ⟨rfl, -⟩ | hc := decodeCommand_cases h
  · rfl
  · cases c with
    | wrCommand => cases hc
    | _ => rfl

/-- A write to COMMAND is the command its word selects, or the well-formed write of a word that selects none. -/
theorem encode_of_decodeWrite {slot : Nat} {v : Word} {i : Instr} (h : decodeWrite slot v = some i) :
    encode i = busWrite (4 * slot) v ∧ WellFormed i = true := by
  unfold decodeWrite at h
  split at h <;> cases h
  case h_1 =>
    cases hv : decodeCommand v with
    | none => exact ⟨rfl, (wellFormed_wrCommand_iff v).mpr hv⟩
    | some c => exact ⟨encode_of_decodeCommand hv, wellFormed_of_decodeCommand hv⟩
  all_goals exact ⟨rfl, rfl⟩

/-- Settles O2, by the slot the access reads or writes. -/
theorem encodeDecode : Obligations.EncodeDecode := by
  rintro ⟨dir, size, off, v⟩ i h hdata
  obtain ⟨rfl, haligned⟩ := decode_ok_aligned h
  have hslot : 4 * (off / 4) = off := Nat.mul_div_cancel' (Nat.dvd_of_mod_eq_zero haligned.1)
  cases dir with
  | read =>
    obtain rfl := hdata rfl
    rw [← hslot]
    exact encode_of_decodeRead ((decode_read_iff haligned 0#32 i).mp h)
  | write =>
    rw [← hslot]
    exact encode_of_decodeWrite ((decode_write_iff haligned v i).mp h)

/-- Settles O4, by running the decoder on each access. -/
theorem wordsDecode : Obligations.WordsDecode := ⟨rfl, rfl, rfl, rfl, rfl, rfl, rfl⟩

/-! ### The operand of FILL -/

theorem fillBit_eq_true {arg : BitVec 24} (h : arg ≠ 0#24) : fillBit arg = true := by
  have := arg.isLt
  simp [fillBit, BitVec.toNat_eq] at h ⊢
  omega

/-- Settles O52: a non-zero ARG gives the bit 1, and FILL's work commutes with a change of OUTPUT_BUFFER. -/
theorem fillReadsNoBuffer : Obligations.FillReadsNoBuffer := by
  refine ⟨fun s a b ha hb => ?_, fun s t u a v ht hu => ?_⟩
  · have hbit : fillBit a = fillBit b := by rw [fillBit_eq_true ha, fillBit_eq_true hb]
    exact congrArg (fun bit => runConfigured (fillTransfer bit) s) hbit
  · rw [exec_command rfl] at ht hu
    refine ⟨?_, runConfigured_commutes (g := fun s => { s with outputBuffer := v }) rfl (fun _ _ => rfl) rfl ht hu⟩
    obtain ⟨-, rfl⟩ | ⟨-, rfl, -⟩ := runConfigured_inv ht <;> rfl

end Sys2Proof.Machine

/-! SUPPORT. The statements about the pulses and the order of the hybrid's events (40_pulse_primitives.md). -/

namespace Sys2Proof.Machine

/-! ### How a command other than CONFIGURE ends -/

/-- R260: past its check, a command whose events are on existing pins does its work and ends with code 0. -/
theorem command_completes {c : Instr} (hc : isTransferOrPulse c = true) {s : State} (hs : s.configured = true)
    (hp : OnPins s (commandTrace c s)) : exec c s = .next ((commandWork c s).setErr .ok) := by
  rw [exec_command hc, runConfigured, if_pos hs]
  exact commit_next (commandWork_trace c s) hp

theorem command_notConfigured {c : Instr} (hc : isTransferOrPulse c = true) {s : State} (hs : s.configured = false) :
    exec c s = .next (erredWith s .notConfigured) := by
  rw [exec_command hc, runConfigured, hs]; rfl

theorem decodeCommand_arg_ne_zero {opc : BitVec 8} {arg : BitVec 24} (hopc : opc ≠ 0x08#8) (harg : arg ≠ 0#24) :
    decodeCommand (commandWord opc arg) = none := by
  simp [decodeCommand, hopc, harg]

/-- R82, R84: a command other than FILL, given a non-zero ARG, is an illegal command. -/
theorem wrCommand_arg_ne_zero {opc : BitVec 8} {arg : BitVec 24} (hopc : opc ≠ 0x08#8) (harg : arg ≠ 0#24)
    (s : State) : exec (.wrCommand (commandWord opc arg)) s = .next (erredWith s .illegalCommand) := by
  rw [exec_wrCommand, decodeCommand_arg_ne_zero hopc harg]; rfl

/-! ### The pulses -/

/-- Settles O21: CLOCK_PULSE's events are all on the clock pin, and its two errors are those of any command but FILL. -/
theorem clockPulseRule : Obligations.ClockPulseRule :=
  ⟨rfl, fun s hs hp => command_completes rfl hs ((onPins_cpTrace s).mpr hp), fun _ => command_notConfigured rfl,
    fun s _ harg => wrCommand_arg_ne_zero (by decide) harg s⟩

/-- Settles O22: LATCH_PULSE's events are all on the latch pin, and its two errors are those of any command but FILL. -/
theorem latchPulseRule : Obligations.LatchPulseRule :=
  ⟨rfl, fun s hs hp => command_completes rfl hs ((onPins_lpTrace s).mpr hp), fun _ => command_notConfigured rfl,
    fun s _ harg => wrCommand_arg_ne_zero (by decide) harg s⟩

/-! ### The bit positions of a shift loop -/

/-- Of blocks of one length `n` set end to end, the `k`-th stands at `n * k`. -/
theorem take_drop_flatMap {α β : Type} {n : Nat} {f : α → List β} (hf : ∀ x, (f x).length = n) {xs : List α} {k : Nat}
    (hk : k < xs.length) : ((xs.flatMap f).drop (n * k)).take n = f xs[k] := by
  induction xs generalizing k with
  | nil => cases hk
  | cons x xs ih =>
    rw [List.flatMap_cons]
    cases k with
    | zero => simp [← hf x]
    | succ k =>
      have hskip : n * (k + 1) = (f x).length + n * k := by rw [hf, Nat.mul_succ, Nat.add_comm]
      rw [hskip, List.drop_length_add_append]
      exact ih (Nat.lt_of_succ_lt_succ hk)

@[simp] theorem cpTrace_length (s : State) : (cpTrace s).length = 4 := rfl

@[simp] theorem outTrace_length (bit : Nat → Level) (s : State) : (outTrace bit s).length = 5 * bitWidth s := by
  simp [outTrace, List.length_flatMap, Nat.mul_comm]

@[simp] theorem inTrace_length (s : State) (ss : List Level) : (inTrace s ss).length = 5 * ss.length := by
  simp [inTrace, List.length_flatMap, Nat.mul_comm]

/-- R120: the `k`-th bit position of a serial-out drives bit W-1-k and pulses the clock. -/
theorem outTrace_bitPosition (bit : Nat → Level) {s : State} {k : Nat} (hk : k < bitWidth s) :
    ((outTrace bit s).drop (5 * k)).take 5 =
      .drive s.dataOutPin (bit (bitWidth s - 1 - k) ^^ s.invertOutput) :: cpTrace s := by
  have hlen : k < (List.range (bitWidth s)).reverse.length := by simpa using hk
  rw [outTrace, take_drop_flatMap (n := 5) (fun _ => rfl) hlen]
  simp

/-- R140: the `k`-th bit position of a serial-in samples and pulses the clock. -/
theorem inTrace_bitPosition (s : State) {ss : List Level} {k : Nat} (hk : k < ss.length) :
    ((inTrace s ss).drop (5 * k)).take 5 = .sample s.dataInPin ss[k] :: cpTrace s :=
  take_drop_flatMap (n := 5) (fun _ => rfl) hk

theorem outTrace_ne_sample {bit : Nat → Level} {s : State} {e : Event} (he : e ∈ outTrace bit s) (p : PinId)
    (l : Level) : e ≠ .sample p l := by
  rintro rfl
  simp [outTrace, cpTrace] at he

/-- Settles O47: `out` is the serial-out loop's trace and `inn` the serial-in loop's, for the answers to come. -/
theorem hybridEventOrder : Obligations.HybridEventOrder := by
  intro s t hs h
  refine ⟨outTrace (fun i => s.outputBuffer.getLsbD i) s, inTrace s (answers s), ?_, by simp, by simp,
    fun e => outTrace_ne_sample, fun k => outTrace_bitPosition _, fun k hk => ?_⟩
  · rw [command_ran (c := .readWrite) rfl hs h, State.setErr_trace, commandWork_trace]
    simp [commandTrace, hybridTrace, readTrace]
  · rw [inTrace_bitPosition s (by simpa using hk)]
    simp [answers]

end Sys2Proof.Machine

/-! SUPPORT. The statements about serial-out (41_serial_out.md): the events of WRITE, the lines a transfer leaves, the
word INVERT_OUTPUT makes of OUTPUT_BUFFER, and that word in a reference OUT-chain. -/

namespace Sys2Proof.Machine

/-! ### WRITE -/

/-- Settles O23: WRITE's events are on a serial-out's pins, and its two errors are those of any command but FILL. -/
theorem writeRule : Obligations.WriteRule :=
  ⟨rfl, fun s hs hp => ⟨command_completes rfl hs ((onPins_writeTrace s).mpr hp), by simp [writeTrace, lpTrace]⟩,
    fun _ => command_notConfigured rfl, fun s _ harg => wrCommand_arg_ne_zero (by decide) harg s⟩

/-! ### The lines a transfer leaves -/

theorem lineLevel_eq_none_iff (p : PinId) (es : List Event) :
    lineLevel p es = none ↔ ∀ l, Event.drive p l ∉ es := by
  induction es with
  | nil => simp [lineLevel]
  | cons e es ih =>
    have hcons : lineLevel p (e :: es) = (lineLevel p es).or (lineLevel p [e]) := lineLevel_append p [e] es
    rw [hcons, Option.or_eq_none_iff, ih]
    cases e with
    | drive q l =>
      by_cases h : p = q
      · subst h
        exact iff_of_false (by simp [lineLevel, lineAfter]) fun hno => hno l List.mem_cons_self
      · simp [lineLevel, lineAfter, h, Ne.symm h]
    | setDir | sample | hold => simp [lineLevel, lineAfter]

/-- A line that is driven and not left high is left low. -/
theorem lineLevel_low_of_driven {p : PinId} {l : Level} {es : List Event} (hlow : lineLevel p es ≠ some true)
    (hmem : Event.drive p l ∈ es) : lineLevel p es = some false := by
  cases h : lineLevel p es with
  | none => exact absurd hmem ((lineLevel_eq_none_iff p es).mp h l)
  | some m =>
    cases m with
    | false => rfl
    | true => exact absurd h hlow

theorem drive_clock_mem_outTrace (bit : Nat → Level) {s : State} (hw : 0 < bitWidth s) :
    Event.drive s.clockPin false ∈ outTrace bit s := by
  simp only [outTrace, List.mem_flatMap]
  exact ⟨0, by simpa using hw, by simp [cpTrace]⟩

theorem drive_clock_mem_inTrace {s : State} {ss : List Level} (hss : 0 < ss.length) :
    Event.drive s.clockPin false ∈ inTrace s ss := by
  simp only [inTrace, List.mem_flatMap]
  exact ⟨ss[0], List.getElem_mem hss, by simp [cpTrace]⟩

/-- The trace lowers the clock line and the latch line of `s` at least once. -/
def Lowers (s : State) (es : List Event) : Prop :=
  Event.drive s.clockPin false ∈ es ∧ Event.drive s.latchPin false ∈ es

theorem lowers_outLatched (bit : Nat → Level) {s : State} (hw : 0 < bitWidth s) :
    Lowers s (outTrace bit s ++ lpTrace s) :=
  ⟨List.mem_append_left _ (drive_clock_mem_outTrace bit hw), by simp [lpTrace]⟩

theorem lowers_readTrace {s : State} (hw : 0 < bitWidth s) : Lowers s (readTrace s (answers s)) := by
  have hclk : Event.drive s.clockPin false ∈ inTrace s (answers s) := drive_clock_mem_inTrace (by simpa using hw)
  exact ⟨by simp [readTrace, hclk], by simp [readTrace]⟩

/-- WRITE, READ, READ_WRITE and FILL, the commands whose transfer does not depend on MODE. -/
def IsTransfer (i : Instr) : Prop := i = .write ∨ i = .read ∨ i = .readWrite ∨ ∃ arg, i = .fill arg

theorem IsTransfer.isTransferOrPulse {i : Instr} (hi : IsTransfer i) : isTransferOrPulse i = true := by
  obtain rfl | rfl | rfl | ⟨arg, rfl⟩ := hi <;> rfl

theorem IsTransfer.lowers {i : Instr} (hi : IsTransfer i) {s : State} (hw : 0 < bitWidth s) :
    Lowers s (commandTrace i s) := by
  obtain rfl | rfl | rfl | ⟨arg, rfl⟩ := hi
  · exact lowers_outLatched _ hw
  · exact lowers_readTrace hw
  · exact (lowers_readTrace hw).imp (List.mem_append_right _) (List.mem_append_right _)
  · exact lowers_outLatched _ hw

/-- The last bit position of a serial-out leaves data-out, on a pin of its own, at bit 0. -/
theorem lineLevel_dataOut_outTrace (bit : Nat → Level) {s : State} (hw : 0 < bitWidth s)
    (hclk : s.dataOutPin ≠ s.clockPin) :
    lineLevel s.dataOutPin (outTrace bit s) = some (bit 0 ^^ s.invertOutput) := by
  obtain ⟨n, hn⟩ := Nat.exists_eq_add_one.mpr hw
  have hlast : lineLevel s.dataOutPin (.drive s.dataOutPin (bit 0 ^^ s.invertOutput) :: cpTrace s) =
      some (bit 0 ^^ s.invertOutput) := by
    simp [lineLevel, lineAfter, cpTrace, hclk.symm]
  simp [outTrace, hn, List.range_succ_eq_map, lineLevel_append, hlast]

theorem lineLevel_dataOut_lpTrace {s : State} (hlat : s.dataOutPin ≠ s.latchPin) :
    lineLevel s.dataOutPin (lpTrace s) = none := by
  simp [lineLevel_eq_none_iff, lpTrace, hlat]

theorem lineLevel_dataOut_readTrace {s : State} (hclk : s.dataOutPin ≠ s.clockPin)
    (hlat : s.dataOutPin ≠ s.latchPin) (ss : List Level) : lineLevel s.dataOutPin (readTrace s ss) = none := by
  simp [lineLevel_eq_none_iff, readTrace, inTrace, cpTrace, hclk, hlat]

/-- Settles O45: the events of a transfer lower clock and latch and leave neither high; data-out is last driven by the
last bit position of a serial-out. -/
theorem linesAfterTransfer : Obligations.LinesAfterTransfer := by
  intro i s t hs hwidth h
  have hw : 0 < bitWidth s := by unfold bitWidth; omega
  have hlevel (hi : IsTransfer i) (p : PinId) :
      lineLevel p t.trace = (lineLevel p (commandTrace i s)).or (lineLevel p s.trace) := by
    rw [command_ran hi.isTransferOrPulse hs h, State.setErr_trace, commandWork_trace, lineLevel_append]
  refine ⟨fun hi => ?_, fun hclk hlat => ⟨fun hi => ?_, fun arg hi => ?_, fun hi => ?_⟩⟩
  · obtain ⟨hclk, hlat⟩ := IsTransfer.lowers hi hw
    have hq := quiet_commandTrace i s
    rw [hlevel hi, hlevel hi, lineLevel_low_of_driven hq.clock hclk, lineLevel_low_of_driven hq.latch hlat]
    exact ⟨rfl, rfl⟩
  · obtain rfl | rfl := hi
    · rw [hlevel (.inl rfl)]
      simp [commandTrace, writeTrace, lineLevel_append, lineLevel_dataOut_lpTrace hlat,
        lineLevel_dataOut_outTrace _ hw hclk]
    · rw [hlevel (.inr (.inr (.inl rfl)))]
      simp [commandTrace, hybridTrace, lineLevel_append, lineLevel_dataOut_readTrace hclk hlat,
        lineLevel_dataOut_outTrace _ hw hclk]
  · rw [hlevel (.inr (.inr (.inr ⟨arg, hi⟩))), hi]
    simp [commandTrace, fillTrace, lineLevel_append, lineLevel_dataOut_lpTrace hlat,
      lineLevel_dataOut_outTrace _ hw hclk, BitVec.toNat_eq]
  · rw [hlevel (.inr (.inl hi)), hi]
    simp [commandTrace, lineLevel_dataOut_readTrace hclk hlat]

/-! ### The word a serial-out shows -/

/-- R120, R124: the word whose bits WRITE drives on data-out. -/
def shownWord (s : State) : Word := if s.invertOutput then ~~~s.outputBuffer else s.outputBuffer

theorem getLsbD_shownWord (s : State) {i : Nat} (hi : i < 32) :
    (shownWord s).getLsbD i = (s.outputBuffer.getLsbD i ^^ s.invertOutput) := by
  unfold shownWord
  cases s.invertOutput <;> simp [hi]

/-- The events that shift the `n` low bits of `v` out as they are, the highest first. -/
def bitsTrace (v : Word) (n : Nat) (s : State) : List Event :=
  (List.range n).reverse.flatMap fun i => .drive s.dataOutPin (v.getLsbD i) :: cpTrace s

theorem bitsTrace_succ (v : Word) (n : Nat) (s : State) :
    bitsTrace v (n + 1) s = .drive s.dataOutPin (v.getLsbD n) :: cpTrace s ++ bitsTrace v n s := by
  simp [bitsTrace, List.range_succ]

/-- R120, R124: shifting OUTPUT_BUFFER out drives the bits of the shown word. -/
theorem outTrace_outputBuffer {s : State} (hw : bitWidth s ≤ 32) :
    outTrace (fun i => s.outputBuffer.getLsbD i) s = bitsTrace (shownWord s) (bitWidth s) s := by
  refine List.flatMap_congr fun i hi => ?_
  have hi : i < bitWidth s := by simpa using hi
  rw [getLsbD_shownWord s (hi.trans_le hw)]

theorem writeTrace_eq_bitsTrace {s : State} (hw : bitWidth s ≤ 32) :
    writeTrace s = bitsTrace (shownWord s) (bitWidth s) s ++ lpTrace s := by
  rw [writeTrace, outTrace_outputBuffer hw]

theorem exec_write_trace {s t : State} (h : exec .write s = .next t) (hs : s.configured = true)
    (hw : bitWidth s ≤ 32) :
    t.trace = s.trace ++ (bitsTrace (shownWord s) (bitWidth s) s ++ lpTrace s) := by
  rw [command_ran rfl hs h, State.setErr_trace, commandWork_trace, ← writeTrace_eq_bitsTrace hw]; rfl

/-- Settles O51: both commands show the complement of OUTPUT_BUFFER. -/
theorem inversionComplements : Obligations.InversionComplements := by
  intro s t u hs hw ht hu
  obtain ⟨hout, -⟩ := command_keeps_host (i := .write) rfl ht
  exact ⟨(exec_write_trace ht hs hw).trans (exec_write_trace hu hs hw).symm, hout⟩

/-! ### The reference OUT-chain -/

/-- The OUT-chain is on three distinct lines of the engine, its clock and latch line last driven low. -/
structure OutWired (s : State) (d : OutChain) : Prop where
  clockPin : d.clockPin = s.clockPin
  latchPin : d.latchPin = s.latchPin
  dataPin : d.dataPin = s.dataOutPin
  clock_ne_latch : s.clockPin ≠ s.latchPin
  data_ne_clock : s.dataOutPin ≠ s.clockPin
  data_ne_latch : s.dataOutPin ≠ s.latchPin
  clock : d.clock = false
  latch : d.latch = false

/-- The OUT-chain after a bit is driven and the clock pulsed (R122). -/
def outChainShift (d : OutChain) (b : Level) : OutChain :=
  { d with data := b, sr := (2 * d.sr + b.toNat) % 2 ^ d.width }

theorem outChainRun_append (d : OutChain) (as bs : List Event) :
    outChainRun d (as ++ bs) = outChainRun (outChainRun d as) bs := List.foldl_append

theorem OutWired.shift {s : State} {d : OutChain} (h : OutWired s d) (b : Level) : OutWired s (outChainShift d b) :=
  { h with }

/-- R122: one bit position of a serial-out shifts its bit into the OUT-chain. -/
theorem OutWired.run_bitPosition {s : State} {d : OutChain} (h : OutWired s d) (b : Level) :
    outChainRun d (.drive s.dataOutPin b :: cpTrace s) = outChainShift d b := by
  simp [outChainRun, outChainEvent, outChainDrive, outChainClock, cpTrace, outChainShift, h.clockPin, h.latchPin,
    h.dataPin, h.clock_ne_latch, h.data_ne_clock, h.data_ne_clock.symm, h.data_ne_latch, h.clock]

/-- R101, R122: a latch pulse copies the OUT-chain's register to its outputs. -/
theorem OutWired.run_lpTrace {s : State} {d : OutChain} (h : OutWired s d) :
    outChainRun d (lpTrace s) = { d with q := d.sr } := by
  simp [outChainRun, outChainEvent, outChainDrive, outChainLatch, lpTrace, h.clockPin, h.latchPin, h.dataPin,
    h.clock_ne_latch.symm, h.data_ne_latch.symm, h.latch]

/-- R122: the `n` low bits of a word, shifted out, push the OUT-chain's register up by `n` and stand below it. -/
theorem OutWired.run_bitsTrace {s : State} {d : OutChain} (h : OutWired s d) (hsr : d.sr < 2 ^ d.width) (v : Word)
    (n : Nat) :
    OutWired s (outChainRun d (bitsTrace v n s)) ∧
      (outChainRun d (bitsTrace v n s)).sr = (d.sr * 2 ^ n + v.toNat % 2 ^ n) % 2 ^ d.width := by
  induction n generalizing d with
  | zero =>
    refine ⟨h, ?_⟩
    simp [bitsTrace, outChainRun, Nat.mod_one, Nat.mod_eq_of_lt hsr]
  | succ n ih =>
    rw [bitsTrace_succ, outChainRun_append, h.run_bitPosition]
    obtain ⟨hwired, hreg⟩ := ih (h.shift (v.getLsbD n)) (Nat.mod_lt _ (Nat.two_pow_pos _))
    refine ⟨hwired, hreg.trans ?_⟩
    have hbit : v.toNat % 2 ^ (n + 1) = (v.getLsbD n).toNat * 2 ^ n + v.toNat % 2 ^ n := by
      rw [Nat.mod_pow_succ, ← Nat.toNat_testBit, BitVec.testBit_toNat, Nat.mul_comm, Nat.add_comm]
    calc ((2 * d.sr + (v.getLsbD n).toNat) % 2 ^ d.width * 2 ^ n + v.toNat % 2 ^ n) % 2 ^ d.width
      _ = ((2 * d.sr + (v.getLsbD n).toNat) * 2 ^ n + v.toNat % 2 ^ n) % 2 ^ d.width := by
        simp [Nat.add_mod, Nat.mul_mod]
      _ = (d.sr * 2 ^ (n + 1) + v.toNat % 2 ^ (n + 1)) % 2 ^ d.width := by
        rw [hbit]; congr 1; ring

/-- R122: a whole width of bits leaves nothing of what stood in the OUT-chain. -/
theorem OutWired.run_wholeWidth {s : State} {d : OutChain} (h : OutWired s d) (hsr : d.sr < 2 ^ d.width) (v : Word) :
    OutWired s (outChainRun d (bitsTrace v d.width s)) ∧
      (outChainRun d (bitsTrace v d.width s)).sr = v.toNat % 2 ^ d.width := by
  obtain ⟨hwired, hreg⟩ := h.run_bitsTrace hsr v d.width
  exact ⟨hwired, by simpa using hreg⟩

/-- Settles O56: W bits of the shown word fill the OUT-chain's register, and the latch pulse shows it. -/
theorem outChainShowsBuffer : Obligations.OutChainShowsBuffer := by
  intro s t d hs hwidth hclkLat hdatClk hdatLat hw hclk hlat hdat hclkLow hlatLow hsr h
  have hwired : OutWired s d := ⟨hclk, hlat, hdat, hclkLat, hdatClk, hdatLat, hclkLow, hlatLow⟩
  have hw32 : bitWidth s ≤ 32 := by unfold bitWidth; omega
  obtain ⟨hafter, hreg⟩ := hwired.run_wholeWidth hsr (shownWord s)
  rw [issued_eq (exec_write_trace h hs hw32), ← hw, outChainRun_append, hafter.run_lpTrace]
  exact hreg

end Sys2Proof.Machine

/-! SUPPORT. The statements about serial-in (42_serial_in.md): the events of READ, where each sample stands in
INPUT_BUFFER, and what a reference IN-chain leaves there. -/

namespace Sys2Proof.Machine

/-! ### READ -/

/-- Settles O24: READ's events are on a serial-in's pins, the samples are the W answers to come, and its two errors are
those of any command but FILL. -/
theorem readRule : Obligations.ReadRule :=
  ⟨rfl, fun s hs hp =>
    ⟨_, answers s, command_completes rfl hs ((onPins_readTrace (answers_length s)).mpr hp), answers_length s,
      commandWork_trace .read s, by simp [readTrace], rfl, rfl, commandWork_onlyCaptures .read s .ok⟩,
    fun _ => command_notConfigured rfl, fun s _ harg => wrCommand_arg_ne_zero (by decide) harg s⟩

/-! ### The bits of the captured sum -/

theorem sum_map_shiftLeft_one {α : Type} (f : α → Word) (xs : List α) :
    (xs.map fun x => f x <<< 1).sum = (xs.map f).sum <<< 1 := by
  induction xs with
  | nil => rfl
  | cons x xs ih => simp [ih, BitVec.shiftLeft_add_distrib]

/-- R140, R143: one more sample moves the sum up by one and stands at bit 0. -/
theorem captureSum_append_singleton (ss : List Level) (l : Level) :
    captureSum (ss ++ [l]) = shiftLevelIn (captureSum ss) l := by
  have hmoved : (List.range ss.length).map (fun k => zextLevel ((ss ++ [l]).getD k false) <<< (ss.length - k)) =
      (List.range ss.length).map fun k => zextLevel (ss.getD k false) <<< (ss.length - 1 - k) <<< 1 := by
    refine List.map_congr_left fun k hk => ?_
    have hk : k < ss.length := by simpa using hk
    have hplace : ss.length - k = ss.length - 1 - k + 1 := by omega
    rw [List.getD_append _ _ _ _ hk, hplace, BitVec.shiftLeft_add]
  rw [shiftLevelIn_eq_add, captureSum, captureSum, ← sum_map_shiftLeft_one, ← hmoved]
  simp [List.range_succ]

theorem getLsbD_shiftLevelIn_zero (w : Word) (l : Level) : (shiftLevelIn w l).getLsbD 0 = l := by
  cases l <;> simp [shiftLevelIn, zextLevel]

theorem getLsbD_shiftLevelIn_succ (w : Word) (l : Level) {i : Nat} (hi : i + 1 < 32) :
    (shiftLevelIn w l).getLsbD (i + 1) = w.getLsbD i := by
  cases l <;> simp [shiftLevelIn, zextLevel, hi, BitVec.getLsbD_eq_getElem (Nat.lt_of_succ_lt hi)]

/-- R143: the samples stand in the captured sum last one first. -/
theorem getLsbD_captureSum (ss : List Level) {i : Nat} (hi : i < 32) :
    (captureSum ss).getLsbD i = ss.reverse.getD i false := by
  induction ss using List.reverseRecOn generalizing i with
  | nil => simp [captureSum]
  | append_singleton ss l ih =>
    rw [captureSum_append_singleton, List.reverse_concat]
    cases i with
    | zero => exact getLsbD_shiftLevelIn_zero _ l
    | succ i => exact (getLsbD_shiftLevelIn_succ _ l hi).trans (ih (Nat.lt_of_succ_lt hi))

theorem getLsbD_captureSum_sample {ss : List Level} (hss : ss.length ≤ 32) {k : Nat} (hk : k < ss.length) :
    (captureSum ss).getLsbD (ss.length - 1 - k) = ss[k] := by
  have hback : ss.length - 1 - (ss.length - 1 - k) = k := by omega
  rw [getLsbD_captureSum ss (by omega), List.getD_eq_getElem _ _ (by simp; omega), List.getElem_reverse]
  simp only [hback]

theorem getLsbD_captureSum_high {ss : List Level} {i : Nat} (hi : ss.length ≤ i) :
    (captureSum ss).getLsbD i = false := by
  by_cases h32 : i < 32
  · rw [getLsbD_captureSum ss h32, List.getD_eq_default _ _ (by simpa using hi)]
  · exact BitVec.getLsbD_of_ge _ _ (Nat.not_lt.mp h32)

theorem answers_length_le {s : State} (hwidth : s.widthBytes.toNat ≤ 4) : (answers s).length ≤ 32 := by
  rw [answers_length, bitWidth]; omega

theorem exec_capture_inputBuffer {s t : State} (hs : s.configured = true)
    (h : exec .read s = .next t ∨ exec .readWrite s = .next t) : t.inputBuffer = captureSum (answers s) := by
  obtain h | h := h <;> rw [command_ran rfl hs h] <;> rfl

/-- Settles O32: both commands leave the sum of the W answers, whose bits are the samples. -/
theorem capturedBits : Obligations.CapturedBits := by
  intro s t hs hwidth h
  have hlen : (answers s).length ≤ 32 := answers_length_le hwidth
  rw [exec_capture_inputBuffer hs h]
  refine ⟨rfl, fun k hk => ?_, fun i hi => getLsbD_captureSum_high (by simpa using hi)⟩
  have hsample := getLsbD_captureSum_sample hlen (k := k) (by simpa using hk)
  simpa [answers] using hsample

/-! ### The reference IN-chain -/

/-- The IN-chain is on the engine's clock, latch and data-in lines, the clock line apart from the latch line and last
driven low. -/
structure InWired (s : State) (d : InChain) : Prop where
  clockPin : d.clockPin = s.clockPin
  latchPin : d.latchPin = s.latchPin
  dataPin : d.dataPin = s.dataInPin
  clock_ne_latch : s.clockPin ≠ s.latchPin
  clock : d.clock = false

/-- The IN-chain after a trace. -/
def inChainRun (d : InChain) (es : List Event) : InChain := es.foldl inChainEvent d

/-- The IN-chain after a latch rise (R142). -/
def inChainLoad (d : InChain) : InChain := { d with latch := true, pr := d.inputs }

/-- The IN-chain after a clock pulse (R142). -/
def inChainShift (d : InChain) : InChain := { d with pr := 2 * d.pr % 2 ^ d.width }

theorem inChainAgrees_append (d : InChain) (as bs : List Event) :
    inChainAgrees d (as ++ bs) = (inChainAgrees d as && inChainAgrees (inChainRun d as) bs) := by
  induction as generalizing d with
  | nil => rfl
  | cons e as ih => simp [inChainAgrees, inChainRun, ih, Bool.and_assoc]

theorem InWired.load {s : State} {d : InChain} (h : InWired s d) : InWired s (inChainLoad d) := { h with }

theorem InWired.shift {s : State} {d : InChain} (h : InWired s d) : InWired s (inChainShift d) := { h with }

theorem InWired.run_latchRaise {s : State} {d : InChain} (h : InWired s d) (hlatch : d.latch = false) :
    inChainRun d [.drive s.latchPin true] = inChainLoad d := by
  simp [inChainRun, inChainEvent, inChainDrive, inChainLatch, inChainLoad, h.clockPin, h.latchPin,
    h.clock_ne_latch.symm, hlatch]

theorem InWired.run_bitPosition {s : State} {d : InChain} (h : InWired s d) (l : Level) :
    inChainRun d (.sample s.dataInPin l :: cpTrace s) = inChainShift d := by
  simp [inChainRun, inChainEvent, inChainDrive, inChainClock, cpTrace, inChainShift, h.clockPin, h.latchPin,
    h.clock_ne_latch, h.clock]

theorem InWired.agrees_bitPosition {s : State} {d : InChain} (h : InWired s d) (l : Level) :
    inChainAgrees d (.sample s.dataInPin l :: cpTrace s) = (l == inChainShows d) := by
  simp [inChainAgrees, inChainAllows, cpTrace, h.dataPin]

/-- R142: of at most W samples that agree with the IN-chain, the `k`-th is the bit `k` places below its highest. -/
theorem InWired.sample_of_agrees {s : State} {d : InChain} (h : InWired s d) {ss : List Level}
    (hss : ss.length ≤ d.width) (hagrees : inChainAgrees d (inTrace s ss) = true) {k : Nat} (hk : k < ss.length) :
    ss[k] = d.pr.testBit (d.width - 1 - k) := by
  induction ss generalizing d k with
  | nil => cases hk
  | cons l ss ih =>
    have hcons : inTrace s (l :: ss) = (.sample s.dataInPin l :: cpTrace s) ++ inTrace s ss := List.flatMap_cons
    rw [hcons, inChainAgrees_append, h.agrees_bitPosition, h.run_bitPosition, Bool.and_eq_true, beq_iff_eq] at hagrees
    obtain ⟨hl, hrest⟩ := hagrees
    cases k with
    | zero => exact hl
    | succ k =>
      have hk : k < ss.length := Nat.lt_of_succ_lt_succ hk
      have hwidth : k + 1 < d.width := (Nat.succ_lt_succ hk).trans_le hss
      have hplace : d.width - 1 - k = d.width - 1 - (k + 1) + 1 := by omega
      calc ss[k]
        _ = (2 * d.pr % 2 ^ d.width).testBit (d.width - 1 - k) := ih h.shift (Nat.le_of_succ_le hss) hrest hk
        _ = (2 * d.pr).testBit (d.width - 1 - k) := by
          rw [Nat.testBit_mod_two_pow, decide_eq_true (by omega), Bool.true_and]
        _ = d.pr.testBit (d.width - 1 - (k + 1)) := by simp [hplace, Nat.testBit_succ]

/-- W samples that are the bits of `v`, the highest first, are captured as `v`. -/
theorem toNat_captureSum_of_bits {ss : List Level} {v : Nat} (hss : ss.length ≤ 32) (hv : v < 2 ^ ss.length)
    (hbits : ∀ k (hk : k < ss.length), ss[k] = v.testBit (ss.length - 1 - k)) : (captureSum ss).toNat = v := by
  refine Nat.eq_of_testBit_eq fun i => ?_
  rw [BitVec.testBit_toNat]
  by_cases hi : i < ss.length
  · have hplace : ss.length - 1 - (ss.length - 1 - i) = i := by omega
    have hk : ss.length - 1 - i < ss.length := by omega
    have hsample := (getLsbD_captureSum_sample hss hk).trans (hbits _ hk)
    rwa [hplace] at hsample
  · have hi : ss.length ≤ i := Nat.not_lt.mp hi
    rw [getLsbD_captureSum_high hi, Nat.testBit_lt_two_pow (hv.trans_le (Nat.pow_le_pow_right Nat.two_pos hi))]

/-- R142, R143: the samples of a read transfer that agree with an IN-chain of their number sum to its parallel inputs. -/
theorem InWired.toNat_captureSum {s : State} {d : InChain} (h : InWired s d) (hlatch : d.latch = false)
    {ss : List Level} (hw : d.width = ss.length) (hss : ss.length ≤ 32) (hinputs : d.inputs < 2 ^ d.width)
    (hagrees : inChainAgrees d (readTrace s ss) = true) : (captureSum ss).toNat = d.inputs := by
  rw [readTrace, inChainAgrees_append, inChainAgrees_append, h.run_latchRaise hlatch, Bool.and_eq_true,
    Bool.and_eq_true] at hagrees
  obtain ⟨⟨-, hloaded⟩, -⟩ := hagrees
  rw [hw] at hinputs
  refine toNat_captureSum_of_bits hss hinputs fun k hk => ?_
  rw [← hw]
  exact h.load.sample_of_agrees hw.ge hloaded hk

/-- Settles O57: the answers agree with the IN-chain along READ's own events. -/
theorem inChainCaptured : Obligations.InChainCaptured := by
  intro s t d hs hwidth hclkLat hw hclk hlat hdat hclkLow hlatLow hinputs h hagrees
  have hwired : InWired s d := ⟨hclk, hlat, hdat, hclkLat, hclkLow⟩
  have hlen : (answers s).length ≤ 32 := answers_length_le hwidth
  have htrace : t.trace = s.trace ++ readTrace s (answers s) := by
    rw [command_ran rfl hs h, State.setErr_trace, commandWork_trace]; rfl
  rw [issued_eq htrace] at hagrees
  rw [exec_capture_inputBuffer hs (.inl h)]
  exact hwired.toNat_captureSum hlatLow (hw.trans (answers_length s).symm) hlen hinputs hagrees

end Sys2Proof.Machine

/-! SUPPORT. The statements about the hybrid (43_hybrid.md): the events of READ_WRITE, and what one hybrid cycle does to
the two reference devices: its serial-in leaves the OUT-chain's outputs alone, and its serial-out is undone in the
IN-chain by the latch raise. -/

namespace Sys2Proof.Machine

/-! ### READ_WRITE -/

/-- R160: `10W + 2` events. -/
theorem hybridTrace_length {s : State} {ss : List Level} (hss : ss.length = bitWidth s) :
    (hybridTrace s ss).length = 10 * bitWidth s + 2 := by
  simp only [hybridTrace, readTrace, List.length_append, List.length_singleton, outTrace_length, inTrace_length, hss]
  omega

/-- Settles O25: READ_WRITE's events are on the pins of a serial-out and of a serial-in, the samples are the W answers
to come, and its two errors are those of any command but FILL. -/
theorem readWriteRule : Obligations.ReadWriteRule :=
  ⟨rfl, fun s hs hout hin =>
    ⟨_, answers s, command_completes rfl hs ((onPins_hybridTrace (answers_length s)).mpr ⟨hout, hin⟩),
      answers_length s, commandWork_trace .readWrite s, hybridTrace_length (answers_length s), rfl, rfl,
      commandWork_onlyCaptures .readWrite s .ok⟩,
    fun _ => command_notConfigured rfl, fun s _ harg => wrCommand_arg_ne_zero (by decide) harg s⟩

theorem exec_readWrite_trace {s t : State} (h : exec .readWrite s = .next t) (hs : s.configured = true) :
    t.trace = s.trace ++ hybridTrace s (answers s) := by
  rw [command_ran rfl hs h, State.setErr_trace, commandWork_trace]; rfl

/-! ### The OUT-chain, while the IN-chain is read -/

theorem outChainDrive_latchPin (d : OutChain) (p : PinId) (l : Level) :
    (outChainDrive d p l).latchPin = d.latchPin := by
  simp [outChainDrive, outChainLatch, outChainClock, apply_ite OutChain.latchPin]

/-- D26: a drive that does not raise the latch line leaves the parallel outputs. -/
theorem outChainDrive_q {d : OutChain} {p : PinId} {l : Level} (h : p = d.latchPin → l = false) :
    (outChainDrive d p l).q = d.q := by
  by_cases hp : p = d.latchPin
  · simp [outChainDrive, outChainLatch, outChainClock, apply_ite OutChain.latchPin, apply_ite OutChain.q, h hp]
  · simp [outChainDrive, outChainClock, apply_ite OutChain.latchPin, apply_ite OutChain.q, hp]

theorem outChainEvent_latchPin (d : OutChain) (e : Event) : (outChainEvent d e).latchPin = d.latchPin := by
  cases e with
  | drive p l => exact outChainDrive_latchPin d p l
  | setDir | sample | hold => rfl

theorem outChainEvent_q {d : OutChain} {e : Event} (he : e ≠ .drive d.latchPin true) : (outChainEvent d e).q = d.q := by
  cases e with
  | drive p l => exact outChainDrive_q (by rintro rfl; simpa using he)
  | setDir | sample | hold => rfl

theorem outChainRun_q {d : OutChain} {es : List Event} (hes : Event.drive d.latchPin true ∉ es) :
    (outChainRun d es).q = d.q := by
  induction es generalizing d with
  | nil => rfl
  | cons e es ih =>
    obtain ⟨he, hes⟩ := List.ne_and_not_mem_of_not_mem_cons hes
    calc (outChainRun (outChainEvent d e) es).q
      _ = (outChainEvent d e).q := ih (by rwa [outChainEvent_latchPin])
      _ = d.q := outChainEvent_q he.symm

theorem OutWired.run_latchRaise {s : State} {d : OutChain} (h : OutWired s d) :
    outChainRun d [.drive s.latchPin true] = { d with latch := true, q := d.sr } := by
  simp [outChainRun, outChainEvent, outChainDrive, outChainLatch, h.clockPin, h.latchPin, h.dataPin,
    h.clock_ne_latch.symm, h.data_ne_latch.symm, h.latch]

/-- R163: the latch raise that starts a read transfer copies the OUT-chain's register to its outputs, and the clock
pulses that follow leave them there. -/
theorem OutWired.run_readTrace_q {s : State} {d : OutChain} (h : OutWired s d) (ss : List Level) :
    (outChainRun d (readTrace s ss)).q = d.sr := by
  have hraise : Event.drive s.latchPin true ∉ inTrace s ss ++ [.drive s.latchPin false] := by
    simp [inTrace, cpTrace, h.clock_ne_latch.symm]
  rw [readTrace, List.append_assoc, outChainRun_append, h.run_latchRaise]
  exact outChainRun_q (by rwa [h.latchPin])

/-- R163: after a hybrid cycle the OUT-chain shows the W low bits of the shown word. -/
theorem OutWired.run_hybridTrace_q {s : State} {d : OutChain} (h : OutWired s d) (hw : d.width = bitWidth s)
    (hw32 : bitWidth s ≤ 32) (hsr : d.sr < 2 ^ d.width) (ss : List Level) :
    (outChainRun d (hybridTrace s ss)).q = (shownWord s).toNat % 2 ^ bitWidth s := by
  obtain ⟨hafter, hreg⟩ := h.run_wholeWidth hsr (shownWord s)
  rw [hybridTrace, outTrace_outputBuffer hw32, ← hw, outChainRun_append, hafter.run_readTrace_q, hreg]

/-! ### The IN-chain, while the OUT-chain is filled -/

theorem inChainRun_append (d : InChain) (as bs : List Event) :
    inChainRun d (as ++ bs) = inChainRun (inChainRun d as) bs := List.foldl_append

/-- D26: to the IN-chain, one bit position of a serial-out is a clock pulse. -/
theorem InWired.run_outBitPosition {s : State} {d : InChain} (h : InWired s d) (hclk : s.dataOutPin ≠ s.clockPin)
    (hlat : s.dataOutPin ≠ s.latchPin) (b : Level) :
    inChainRun d (.drive s.dataOutPin b :: cpTrace s) = inChainShift d := by
  simp [inChainRun, inChainEvent, inChainDrive, inChainClock, cpTrace, inChainShift, h.clockPin, h.latchPin,
    h.clock_ne_latch, h.clock, hclk, hlat]

/-- R163: a serial-out on lines of its own shifts the IN-chain and changes nothing else of it. -/
theorem InWired.run_outTrace {s : State} {d : InChain} (h : InWired s d) (hclk : s.dataOutPin ≠ s.clockPin)
    (hlat : s.dataOutPin ≠ s.latchPin) (bit : Nat → Level) :
    ∃ pr, inChainRun d (outTrace bit s) = { d with pr := pr } := by
  unfold outTrace
  induction (List.range (bitWidth s)).reverse generalizing d with
  | nil => exact ⟨d.pr, rfl⟩
  | cons i is ih =>
    rw [List.flatMap_cons, inChainRun_append, h.run_outBitPosition hclk hlat]
    exact ih h.shift

/-- R163: the samples of a hybrid cycle that agree with an IN-chain of their number sum to its parallel inputs. -/
theorem InWired.toNat_captureSum_of_hybrid {s : State} {d : InChain} (h : InWired s d) (hlatch : d.latch = false)
    (hclk : s.dataOutPin ≠ s.clockPin) (hlat : s.dataOutPin ≠ s.latchPin) {ss : List Level} (hw : d.width = ss.length)
    (hss : ss.length ≤ 32) (hinputs : d.inputs < 2 ^ d.width) (hagrees : inChainAgrees d (hybridTrace s ss) = true) :
    (captureSum ss).toNat = d.inputs := by
  obtain ⟨pr, hout⟩ := h.run_outTrace hclk hlat fun i => s.outputBuffer.getLsbD i
  have hwired : InWired s { d with pr := pr } := { h with }
  rw [hybridTrace, inChainAgrees_append, hout, Bool.and_eq_true] at hagrees
  exact hwired.toNat_captureSum hlatch hw hss hinputs hagrees.2

/-- Settles O58: along READ_WRITE's own events, the OUT-chain's outputs take the shown word at the latch raise, where
the IN-chain loads the inputs that the answers then agree with. -/
theorem hybridCycle : Obligations.HybridCycle := by
  intro s t d e hs hwidth hclkLat hdatClk hdatLat hw hclk hlat hdat hclkLow hlatLow hsr
    hinW hinClk hinLat hinDat hinClkLow hinLatLow hinputs h hagrees
  have hout : OutWired s d := ⟨hclk, hlat, hdat, hclkLat, hdatClk, hdatLat, hclkLow, hlatLow⟩
  have hin : InWired s e := ⟨hinClk, hinLat, hinDat, hclkLat, hinClkLow⟩
  have hlen : (answers s).length ≤ 32 := answers_length_le hwidth
  obtain ⟨hbuffer, -⟩ := command_keeps_host (i := .readWrite) rfl h
  rw [issued_eq (exec_readWrite_trace h hs)] at hagrees ⊢
  rw [exec_capture_inputBuffer hs (.inr h)]
  exact ⟨hout.run_hybridTrace_q hw (answers_length s ▸ hlen) hsr _,
    hin.toNat_captureSum_of_hybrid hinLatLow hdatClk hdatLat (hinW.trans (answers_length s).symm) hlen hinputs hagrees,
    hbuffer⟩

end Sys2Proof.Machine

/-! SUPPORT. The statement about FILL (44_fill.md). -/

namespace Sys2Proof.Machine

/-- R81, R180: every word whose OPC is 8 selects FILL, whatever its ARG. -/
theorem decodeCommand_fill (arg : BitVec 24) : decodeCommand (commandWord 0x08 arg) = some (.fill arg) :=
  decodeCommand_encode (c := .fill arg) (.inr rfl)

theorem exec_wrCommand_fill (arg : BitVec 24) (s : State) :
    exec (.wrCommand (commandWord 0x08 arg)) s = exec (.fill arg) s := by
  rw [exec_wrCommand, decodeCommand_fill]; rfl

/-- R82: past the decoder, the lifecycle check is the only one that raises an error of a command other than CONFIGURE. -/
theorem command_errCode {c : Instr} (hc : isTransferOrPulse c = true) {s t : State} (h : exec c s = .next t) :
    t.errCode = .notConfigured ∨ t.errCode = .ok := by
  rw [exec_command hc] at h
  obtain ⟨-, rfl⟩ | ⟨-, rfl, -⟩ := runConfigured_inv h
  · exact .inl rfl
  · exact .inr rfl

/-- Settles O27: FILL's events are on a serial-out's pins, and every word of OPC 8 reaches the lifecycle check. -/
theorem fillRule : Obligations.FillRule := by
  refine ⟨decodeCommand_fill, fun s arg hs hp => ⟨?_, ?_⟩, fun s arg => command_notConfigured rfl,
    fun s t arg h => ?_⟩
  · exact command_completes rfl hs ((onPins_outLatched _ s).mpr hp)
  · simp [fillTrace, lpTrace]
  · obtain he | he := command_errCode rfl ((exec_wrCommand_fill arg s).symm.trans h) <;> simp [he]

end Sys2Proof.Machine

/-! SUPPORT. The statements about construction and TRANSFER (45_construction_and_transfer.md): the transfer MODE
selects, what CONFIGURE does past its checks, and a CONFIGURE issued again. -/

namespace Sys2Proof.Machine

/-! ### The transfer MODE selects -/

theorem afterTransfer_writeOnly {s : State} (h : s.mode = .writeOnly) : afterTransfer s = s := by
  simp [afterTransfer, h]

theorem afterTransfer_reading {s : State} (h : s.mode ≠ .writeOnly) : afterTransfer s = captured s := by
  cases hm : s.mode with
  | writeOnly => exact absurd hm h
  | readOnly | readWrite => simp [afterTransfer, hm]

theorem transferTrace_writeOnly {s : State} (h : s.mode = .writeOnly) (ss : List Level) :
    transferTrace s ss = writeTrace s := by
  simp [transferTrace, h]

/-- R205: a transfer by MODE, with the answers to come, is a transfer's outcome whatever events precede it. -/
theorem transferOutcome_answers (s : State) (before : List Event) :
    TransferOutcome s (((afterTransfer s).emit (before ++ transferTrace s (answers s))).setErr .ok) before := by
  refine ⟨rfl, ?_, answers s, answers_length s, ?_, fun hm => ?_, fun hm => ?_⟩
  · rw [afterTransfer_frame]; rfl
  · rw [afterTransfer_frame, List.append_assoc]; rfl
  · rw [afterTransfer_writeOnly hm, transferTrace_writeOnly hm]; rfl
  · rw [afterTransfer_reading hm]; rfl

/-- A command's outcome depends on its work only in the state it starts from. -/
theorem runConfigured_congr {f g : State → State} {s : State} (h : f s = g s) :
    runConfigured f s = runConfigured g s := by
  simp only [runConfigured, commit, h]

/-- R205: TRANSFER is the command whose transfer MODE selects. -/
theorem exec_transfer (s : State) :
    exec .transfer s =
      if modeNumber s.mode = 0 then exec .write s
      else if modeNumber s.mode = 1 then exec .read s
      else exec .readWrite s := by
  cases hm : s.mode with
  | writeOnly => exact runConfigured_congr (g := writeTransfer) (by rw [transferByMode, hm])
  | readOnly => exact runConfigured_congr (g := readTransfer) (by rw [transferByMode, hm])
  | readWrite => exact runConfigured_congr (g := hybridTransfer) (by rw [transferByMode, hm])

/-- Settles O28: TRANSFER is the command MODE selects, with that one's trace on that one's pins, and its two errors are
those of any command but FILL. -/
theorem transferRule : Obligations.TransferRule :=
  ⟨rfl, fun s hs hp =>
    ⟨_, command_completes rfl hs ((onPins_transferTrace (answers_length s)).mpr hp), transferOutcome_answers s []⟩,
    exec_transfer, fun _ => command_notConfigured rfl, fun s _ harg => wrCommand_arg_ne_zero (by decide) harg s⟩

/-! ### How CONFIGURE ends -/

theorem configure_alreadyConfigured {s : State} (hs : s.configured = true) :
    exec .configure s = .next (erredWith s .alreadyConfigured) := by
  have hrun : exec .configure s = runConfigure s := rfl
  rw [hrun, runConfigure, if_pos hs]; rfl

theorem configure_widthExceedsMax {s : State} (hs : s.configured = false) (hw : 4 < s.widthBytes.toNat) :
    exec .configure s = .next (erredWith s .widthExceedsMax) := by
  obtain ⟨hs', -⟩ | ⟨-, -, hrun⟩ | ⟨-, hw', -⟩ := runConfigure_cases s
  · simp [hs] at hs'
  · exact hrun
  · omega

/-- R82, R201: past its checks, CONFIGURE is its work. -/
theorem configure_commits {s : State} (hs : s.configured = false) (hw : s.widthBytes.toNat ≤ 4) :
    exec .configure s = commit s construct := by
  obtain ⟨hs', -⟩ | ⟨-, hw', -⟩ | ⟨-, -, hrun⟩ := runConfigure_cases s
  · simp [hs] at hs'
  · omega
  · exact hrun

theorem configure_completes {s : State} (hs : s.configured = false) (hw : s.widthBytes.toNat ≤ 4)
    (hp : ConfigurePins s) : exec .configure s = .next ((construct s).setErr .ok) :=
  (configure_commits hs hw).trans (commit_next (construct_trace s) ((onPins_configureTrace s).mpr hp))

/-- R200: CONFIGURE's work is the set-up and one transfer by MODE, from an engine already CONFIGURED whose INPUT_BUFFER
is clear. -/
theorem construct_transferOutcome (s : State) :
    TransferOutcome { s with configured := true, inputBuffer := 0x00000000#32 } ((construct s).setErr .ok)
      (setUpTrace s) := by
  rw [construct_eq]
  exact transferOutcome_answers _ (setUpTrace s)

/-- Settles O29: CONFIGURE's events are on the pins it needs, and each of its three checks raises its own error. -/
theorem configureRule : Obligations.ConfigureRule :=
  ⟨rfl, fun s hs hw hp => ⟨_, configure_completes hs hw hp, construct_transferOutcome s⟩,
    fun _ => configure_widthExceedsMax, fun _ => configure_alreadyConfigured,
    fun s _ harg => wrCommand_arg_ne_zero (by decide) harg s⟩

/-! ### The width check -/

/-- R201: a CONFIGURE that passes the width check succeeds, or is refused for a missing pin. -/
theorem configure_completes_or_refusedForPin {s : State} (hs : s.configured = false) (hw : s.widthBytes.toNat ≤ 4) :
    exec .configure s = .next ((construct s).setErr .ok) ∨ RefusedForPin .configure s := by
  by_cases hp : ConfigurePins s
  · exact .inl (configure_completes hs hw hp)
  · exact .inr (configure_refusedForPin hs hw (mt (onPins_configureTrace s).mp hp))

/-- Settles O30: a width that passes the check ends in code 0 or a refusal, so that its error is a width above 4. -/
theorem widthCheck : Obligations.WidthCheck := by
  refine fun s hs => ⟨⟨configure_widthExceedsMax hs, fun h => ?_⟩, fun hw => ?_⟩
  · by_contra hw
    obtain hok | ⟨p, hno, -⟩ := configure_completes_or_refusedForPin hs (by omega)
    · exact nomatch congrArg State.errCode (Host.Outcome.next.inj (h.symm.trans hok))
    · cases h.symm.trans hno
  · obtain h | h := configure_completes_or_refusedForPin hs hw
    · exact .inl ⟨_, h, rfl, construct_configured s⟩
    · exact .inr h

/-! ### CONFIGURE issued again -/

theorem lowByte_toNat_of_lt {v : Word} (hv : v.toNat < 256) : (lowByte v).toNat = v.toNat := by
  simpa [lowByte] using hv

theorem exec_wrWidthBytes {s : State} (hs : s.configured = false) (v : Word) :
    exec (.wrWidthBytes v) s = .next { s with widthBytes := lowByte v } := by
  simp [exec, execWrWidthBytes, writeLocked, hs]

/-- R55: on a platform that has all 256 pins, a CONFIGURE of a width that passes the check succeeds. -/
theorem configure_completes_allPins {s : State} (hs : s.configured = false) (hw : s.widthBytes.toNat ≤ 4)
    (hn : 256 ≤ s.numGpio) : exec .configure s = .next ((construct s).setErr .ok) := by
  obtain ⟨t, ht⟩ := everythingCompletes .configure s hn
  refine (configure_completes_or_refusedForPin hs hw).resolve_right fun ⟨p, hno, _⟩ => ?_
  cases hno.symm.trans ht

/-- Settles O31: the failed CONFIGURE has left the engine UNCONFIGURED, so the host's write of a width at most 4 is
stored and the CONFIGURE after it passes its checks. -/
theorem configureRetry : Obligations.ConfigureRetry := by
  intro s v hs hw hv hn
  have hwidth : (lowByte v).toNat = v.toNat := lowByte_toNat_of_lt (by omega)
  have hwrite := exec_wrWidthBytes (s := erredWith s .widthExceedsMax) hs v
  have hretry := configure_completes_allPins (s := { erredWith s .widthExceedsMax with widthBytes := lowByte v })
    hs (hwidth.trans_le hv) hn
  obtain ⟨hmode, hbytes, hpins⟩ :=
    construct_sameLocked { erredWith s .widthExceedsMax with widthBytes := lowByte v } .ok
  exact ⟨_, _, _, configure_widthExceedsMax hs hw, rfl, hwrite, hretry, construct_configured _, rfl,
    (congrArg BitVec.toNat hbytes).trans hwidth, hmode, hpins⟩

end Sys2Proof.Machine

/-! SUPPORT. The statements about host register access (46_host_register_access.md): a write to COMMAND, and a read and
a write of every other register. -/

namespace Sys2Proof.Machine

/-! ### COMMAND -/

/-- Settles O6, which is the inversion of a write to COMMAND. -/
theorem commandWriteRuns : Obligations.CommandWriteRuns := by
  intro w s
  rw [exec_wrCommand]
  cases decodeCommand w <;> rfl

/-! ### Reads -/

/-- R53: the state a host read leaves. -/
theorem readRegister_eq (v : Word) (s : State) : readRegister v s = .next (answeredWith s v) := rfl

/-- R260: the four bits of a code are its number. -/
theorem errBits_toNat (e : ErrCode) : (errBits e).toNat = errNumber e := by
  cases e <;> rfl

/-- R24: the two bits of a mode are its number. -/
theorem modeBits_toNat (m : Mode) : (modeBits m).toNat = modeNumber m := by
  cases m <;> rfl

theorem zextLevel_toNat (l : Level) : (zextLevel l).toNat = l.toNat := by
  cases l <;> rfl

/-- R222: where the fields of STATUS stand. -/
theorem statusWord_getLsbD (s : State) (i : Nat) :
    (statusWord s).getLsbD i =
      if i = 0 then s.configured
      else if 4 ≤ i ∧ i < 8 then (errBits s.errCode).getLsbD (i - 4)
      else false := by
  simp only [statusWord, BitVec.getLsbD_append, BitVec.getLsbD_zero, Nat.sub_sub]
  obtain rfl | h | h | h : i = 0 ∨ (1 ≤ i ∧ i < 4) ∨ (4 ≤ i ∧ i < 8) ∨ 8 ≤ i := by omega
  · simp
  · rw [if_neg (by omega), if_pos (by omega), if_neg (by omega), if_neg (by omega)]
  · rw [if_neg (by omega), if_neg (by omega), if_pos (by omega), if_neg (by omega), if_pos h]
  · rw [if_neg (by omega), if_neg (by omega), if_neg (by omega), if_neg (by omega), if_neg (by omega)]

/-- Settles O13: the code's bits in STATUS are those of its number. -/
theorem readStatus : Obligations.ReadStatus := by
  refine fun s => ⟨statusWord s, readRegister_eq _ s, fun i => ?_⟩
  rw [statusWord_getLsbD, ← errBits_toNat, BitVec.testBit_toNat]

/-- Settles O14: a narrow register is read as its field, zero-extended. -/
theorem readFields : Obligations.ReadFields := by
  intro s
  have hmode : ((modeBits s.mode).setWidth 32).toNat = modeNumber s.mode :=
    (BitVec.toNat_setWidth_of_le (by decide)).trans (modeBits_toNat s.mode)
  have hbyte (b : Byte) : (b.setWidth 32).toNat = b.toNat := BitVec.toNat_setWidth_of_le (by decide)
  exact ⟨⟨_, readRegister_eq _ s, hmode⟩, ⟨_, readRegister_eq _ s, hbyte _⟩, ⟨_, readRegister_eq _ s, hbyte _⟩,
    ⟨_, readRegister_eq _ s, hbyte _⟩, ⟨_, readRegister_eq _ s, hbyte _⟩, ⟨_, readRegister_eq _ s, hbyte _⟩,
    ⟨_, readRegister_eq _ s, zextLevel_toNat _⟩⟩

/-- Settles O15: a 32-bit register is read as it stands. -/
theorem readWords : Obligations.ReadWords := fun s =>
  ⟨readRegister_eq _ s, readRegister_eq _ s, readRegister_eq _ s, readRegister_eq _ s⟩

/-- Settles O16: the four reads are reads of a register whose value is 0. -/
theorem readZero : Obligations.ReadZero := by
  intro s
  simp only [List.forall_mem_cons]
  exact ⟨readRegister_eq _ s, readRegister_eq _ s, readRegister_eq _ s, readRegister_eq _ s, nofun⟩

/-! ### Writes

`writeIgnored` and `writeAlways` name operations of the model, so the theorems settling the obligations of those names
end in `_holds`. -/

/-- Settles O17: the four writes are writes a register ignores. -/
theorem writeIgnored_holds : Obligations.WriteIgnored := by
  intro s v
  simp only [List.forall_mem_cons]
  exact ⟨rfl, rfl, rfl, rfl, nofun⟩

/-- R24 to R29: while UNCONFIGURED a write to a locked register is stored. -/
theorem writeLocked_unconfigured {s : State} (hs : s.configured = false) (f : State → State) :
    writeLocked f s = .next (f s) := by
  simp [writeLocked, hs]

/-- R24 to R29: while CONFIGURED a write to a locked register is ignored. -/
theorem writeLocked_configured {s : State} (hs : s.configured = true) (f : State → State) :
    writeLocked f s = .next s := by
  simp [writeLocked, hs]

/-- R225: bits 1:0 of a written word name no mode exactly when they are 3. -/
theorem modeOf_eq_none_iff (v : Word) : modeOf v = none ↔ v.toNat % 4 = 3 := by
  obtain h | h | h | h : v.toNat % 4 = 0 ∨ v.toNat % 4 = 1 ∨ v.toNat % 4 = 2 ∨ v.toNat % 4 = 3 := by omega
  all_goals simp [modeOf, h]

/-- R24, R225: the mode that bits 1:0 of a written word name has them as its number. -/
theorem modeNumber_of_modeOf {v : Word} {m : Mode} (h : modeOf v = some m) : modeNumber m = v.toNat % 4 := by
  unfold modeOf at h
  split at h <;> cases h
  all_goals simp [modeNumber, *]

/-- Settles O18: MODE takes the mode the word names, where it names one and the engine is UNCONFIGURED. -/
theorem writeMode : Obligations.WriteMode := by
  intro s v
  rw [exec, execWrMode]
  obtain hs | hs := Bool.eq_false_or_eq_true s.configured
  · exact ⟨s.mode, writeLocked_configured hs _, by simp [hs], by simp [hs], fun _ => rfl⟩
  · refine ⟨(modeOf v).getD s.mode, writeLocked_unconfigured hs _, fun _ hv => ?_, fun _ hv => ?_, by simp [hs]⟩
    · obtain ⟨m, hm⟩ := Option.ne_none_iff_exists'.mp (mt (modeOf_eq_none_iff v).mp hv)
      rw [hm, Option.getD_some, modeNumber_of_modeOf hm]
    · rw [(modeOf_eq_none_iff v).mpr hv, Option.getD_none]

/-- R25 to R29: the byte a written word leaves is its number modulo 256. -/
theorem lowByte_toNat (v : Word) : (lowByte v).toNat = v.toNat % 256 := by
  simp [lowByte]

/-- Settles O19: the five registers are locked, and each stores the low byte. -/
theorem writeLockedBytes : Obligations.WriteLockedBytes := by
  refine fun s v => ⟨lowByte v, lowByte_toNat v, ?_⟩
  simp only [List.forall_mem_cons, exec, execWrWidthBytes, execWrClockPin, execWrDataInPin, execWrDataOutPin,
    execWrLatchPin]
  refine ⟨fun hs => ?_, fun hs => ?_⟩
  · simp only [writeLocked_unconfigured hs, and_self]
  · simp only [writeLocked_configured hs, true_and]; exact nofun

/-- R241: bit 0 of a written word is whether its number is odd. -/
theorem lowBit_eq_decide (v : Word) : lowBit v = decide (v.toNat % 2 = 1) := by
  simp [lowBit, BitVec.getLsbD]

/-- Settles O20: the five registers take the value in either lifecycle state, INVERT_OUTPUT its bit 0. -/
theorem writeAlways_holds : Obligations.WriteAlways := by
  refine fun s v => ⟨rfl, rfl, ?_, rfl, rfl⟩
  rw [← lowBit_eq_decide]; rfl

end Sys2Proof.Machine

/-! SUPPORT. The statements about errors and about several instances (60_exceptions.md): which code a word written to
COMMAND raises, what an error leaves as it was, and how a step of one engine leaves the others. -/

namespace Sys2Proof.Machine

/-! ### The codes a command word raises -/

theorem legalCommandWord_iff (w : Word) :
    legalCommandWord w = true ↔ (1 ≤ w.toNat ∧ w.toNat ≤ 7) ∨ w.toNat % 256 = 8 := by
  rw [← decodeCommand_isSome, ← not_iff_not, Option.not_isSome_iff_eq_none, decodeCommand_eq_none_iff, not_or]

/-- R84: a word that selects no command is an illegal command, in both lifecycle states. -/
theorem wrCommand_illegal {w : Word} (hw : legalCommandWord w = false) (s : State) :
    exec (.wrCommand w) s = .next (erredWith s .illegalCommand) := by
  have hnone : decodeCommand w = none := Option.not_isSome_iff_eq_none.mp (by simp [decodeCommand_isSome, hw])
  rw [exec_wrCommand, hnone]; rfl

/-- R81: the word 1 is CONFIGURE. -/
theorem wrCommand_configure {w : Word} (hw : w.toNat = 1) (s : State) :
    exec (.wrCommand w) s = exec .configure s := by
  obtain rfl : w = 1#32 := BitVec.eq_of_toNat_eq hw
  rw [exec_wrCommand]; rfl

/-- R81: every legal word but 1 is a command other than CONFIGURE. -/
theorem wrCommand_command {w : Word} (hw : legalCommandWord w = true) (hne : w.toNat ≠ 1) :
    ∃ c, isTransferOrPulse c = true ∧ ∀ s, exec (.wrCommand w) s = exec c s := by
  obtain ⟨c, hc⟩ := Option.isSome_iff_exists.mp ((decodeCommand_isSome w).trans hw)
  obtain ⟨-, rfl⟩ | hcmd := decodeCommand_cases hc
  · exact absurd rfl hne
  · exact ⟨c, hcmd, fun s => by rw [exec_wrCommand, hc]; rfl⟩

/-- Settles O33: the decoder's check comes before the command's own, and CONFIGURE's lifecycle check before its
width check. -/
theorem errorPriority : Obligations.ErrorPriority := by
  refine fun w s => ⟨fun hw => wrCommand_illegal hw s, fun _ h1 hs => ?_, fun hw hne hs => ?_, fun h1 hs hwidth => ?_⟩
  · rw [wrCommand_configure h1, configure_alreadyConfigured hs]
  · obtain ⟨c, hc, hrun⟩ := wrCommand_command hw hne
    rw [hrun, command_notConfigured hc hs]
  · rw [wrCommand_configure h1, configure_widthExceedsMax hs hwidth]

theorem configure_errCode {s t : State} (h : exec .configure s = .next t) :
    t.errCode = .alreadyConfigured ∨ t.errCode = .widthExceedsMax ∨ t.errCode = .ok := by
  obtain ⟨-, rfl⟩ | ⟨-, -, rfl⟩ | ⟨-, -, rfl, -⟩ := runConfigure_inv h
  · exact .inl rfl
  · exact .inr (.inl rfl)
  · exact .inr (.inr rfl)

/-- Settles O35: an illegal word raises code 4, the word 1 CONFIGURE's two codes, any other legal word code 2. -/
theorem whichErrors : Obligations.WhichErrors := by
  intro w s t h herr
  have hlegal := legalCommandWord_iff w
  by_cases hw : legalCommandWord w = true
  · have hrange := hlegal.mp hw
    by_cases h1 : w.toNat = 1
    · have hcode : t.errCode = .alreadyConfigured ∨ t.errCode = .widthExceedsMax := by
        simpa [herr] using configure_errCode ((wrCommand_configure h1 s).symm.trans h)
      refine ⟨fun _ => ?_, by omega, by omega, by omega⟩
      obtain hcode | hcode := hcode <;> simp [hcode]
    · obtain ⟨c, hc, hrun⟩ := wrCommand_command hw h1
      have hcode : t.errCode = .notConfigured := (command_errCode hc ((hrun s).symm.trans h)).resolve_right herr
      exact ⟨by omega, fun _ => hcode, fun _ _ => by simp [hcode], by omega⟩
  · have hnext := (wrCommand_illegal (Bool.eq_false_of_not_eq_true hw) s).symm.trans h
    have hcode : t.errCode = .illegalCommand := congrArg State.errCode (Host.Outcome.next.inj hnext).symm
    exact ⟨fun _ => by simp [hcode], fun h8 => absurd (hlegal.mpr (.inr h8)) hw, fun _ _ => by simp [hcode],
      fun _ => hcode⟩

/-! ### What an error leaves as it was -/

/-- Settles O34: of the effects a command can have, only a failed one ends with a code other than 0. -/
theorem errorsArePrecise : Obligations.ErrorsArePrecise := by
  intro i s t hi h herr
  cases exec_effect h with
  | accessed hacc => simp [hi] at hacc
  | failed => rfl
  | ran | constructed => exact absurd rfl herr

/-! ### Pins that two instances share -/

theorem mem_usedPins_iff (s : State) (p : PinId) :
    p ∈ usedPins s ↔
      p = s.clockPin ∨ p = s.latchPin ∨ (p ∈ [s.dataInPin, s.dataOutPin] ∧ p ≠ 0#8) ∨
        ∃ e ∈ s.trace, eventPin e = some p := by
  simp [usedPins]

theorem sharesPin_iff (a b : State) :
    sharesPin a b = true ↔
      a.configured = true ∧ b.configured = true ∧ ∃ p, p ∈ usedPins a ∧ p ∈ usedPins b := by
  simp [sharesPin, and_assoc]

theorem pinsDisjoint_iff (sys : List State) :
    pinsDisjoint sys = true ↔ sys.Pairwise fun a b => ¬ sharesPin a b = true := by
  induction sys with
  | nil => simp [pinsDisjoint]
  | cons a rest ih => simp [pinsDisjoint, ih]

/-- R275: where two configured instances use one pin, the system's pins are not disjoint. -/
theorem not_pinsDisjoint_of_shared {sys : List State} {i j : Nat} {a b : State} (hij : i ≠ j)
    (ha : sys[i]? = some a) (hb : sys[j]? = some b) (hab : sharesPin a b = true) (hba : sharesPin b a = true) :
    pinsDisjoint sys = false := by
  obtain ⟨hi, rfl⟩ := List.getElem?_eq_some_iff.mp ha
  obtain ⟨hj, rfl⟩ := List.getElem?_eq_some_iff.mp hb
  rw [← Bool.not_eq_true, pinsDisjoint_iff, List.pairwise_iff_getElem]
  intro hpairs
  obtain hlt | hlt := Nat.lt_or_gt_of_ne hij
  · exact hpairs i j hi hj hlt hab
  · exact hpairs j i hj hi hlt hba

/-! ### What a step of a system can do -/

/-- A system whose pins are not disjoint is refused, whichever engine steps. -/
theorem systemStep_shared {sys : List State} (h : pinsDisjoint sys = false) (k : Nat) :
    systemStep k sys = .refused .sharedPins := by
  rw [systemStep, h]; rfl

/-- If a system's step answers a next system, its pins are disjoint, and either there is no engine `k` and nothing
changed, or engine `k` took its own step and the others are as they were. -/
theorem systemStep_inv {k : Nat} {sys sys' : List State} (h : systemStep k sys = .next sys') :
    pinsDisjoint sys' = true ∧
      ((sys[k]? = none ∧ sys' = sys) ∨
        ∃ s t, sys[k]? = some s ∧ step (s.withEnv k) = .next t ∧ sys' = sys.set k t) := by
  unfold systemStep at h
  split at h
  case isTrue => cases h
  case isFalse hd =>
    split at h
    case h_1 hk =>
      cases h
      exact ⟨by simpa using hd, .inl ⟨hk, rfl⟩⟩
    case h_2 s hk =>
      split at h
      case h_1 t ht =>
        split at h
        case isTrue hd' =>
          cases h
          exact ⟨hd', .inr ⟨s, t, hk, ht, rfl⟩⟩
        case isFalse => cases h
      case h_2 | h_3 => cases h

/-- Settles O59: a step sets one place of the list to that engine's next state, and a pin used twice makes the pins
not disjoint. -/
theorem instancesIsolated : Obligations.InstancesIsolated := by
  refine ⟨fun k sys sys' h => ?_, fun k sys i j a b p hij ha hb hac hbc hpa hpb => ?_,
    fun s p => (mem_usedPins_iff s p).mpr⟩
  · obtain ⟨hd, ⟨hk, rfl⟩ | ⟨s, t, hk, ht, rfl⟩⟩ := systemStep_inv h
    · exact ⟨rfl, hd, fun _ _ => rfl, fun s hs => nomatch hk.symm.trans hs⟩
    · obtain ⟨hlt, -⟩ := List.getElem?_eq_some_iff.mp hk
      refine ⟨List.length_set, hd, fun j hj => List.getElem?_set_ne hj.symm, fun s' hs' => ?_⟩
      obtain rfl := Option.some.inj (hk.symm.trans hs')
      exact ⟨t, ht, List.getElem?_set_self hlt⟩
  · exact systemStep_shared (not_pinsDisjoint_of_shared hij ha hb
      ((sharesPin_iff a b).mpr ⟨hac, hbc, p, hpa, hpb⟩) ((sharesPin_iff b a).mpr ⟨hbc, hac, p, hpb, hpa⟩)) k

end Sys2Proof.Machine

/-! SUPPORT. The statements about reset, about who changes what, and about the events a command adds
(70_reset_and_hazards.md). -/

namespace Sys2Proof.Machine

/-! ### Reset, and before CONFIGURE -/

/-- Settles O54: reset is the power-on reset of itself. -/
theorem invAtReset : Obligations.InvAtReset := inv_of_powerOnReset State.reset

/-- R300: while UNCONFIGURED, an instruction other than CONFIGURE issues nothing. -/
theorem exec_trace_of_unconfigured {i : Instr} {s t : State} (hs : s.configured = false)
    (hi : isConfigure i = false) (h : exec i s = .next t) : t.trace = s.trace := by
  cases exec_effect h with
  | accessed _ ht =>
    obtain ⟨-, -, htrace, -⟩ := ht.frame
    exact htrace
  | failed => rfl
  | ran _ _ hs' => simp [hs] at hs'
  | constructed hruns => simp [isConfigure_of_runs hruns] at hi

/-- Settles O11: the values are those of `State.reset`; of the effects of an instruction, only those of a command that
ran add to the trace. -/
theorem resetValues : Obligations.ResetValues := by
  refine ⟨⟨by decide, rfl, rfl, rfl, rfl, rfl, rfl, rfl, rfl, rfl, rfl, rfl, rfl⟩, fun i s t hs hi h => ?_⟩
  refine ⟨exec_trace_of_unconfigured hs hi h, ?_⟩
  obtain ht | ⟨hi', -⟩ := exec_configured h
  · rw [ht, hs]
  · simp [hi] at hi'

/-! ### What a register access leaves, and what writes INPUT_BUFFER -/

/-- Settles O39: an operation that runs no command is a register access. -/
theorem onlyCommandsTouchPins : Obligations.OnlyCommandsTouchPins := by
  intro i s t hi h
  obtain ⟨-, -, htrace, -⟩ := (access_effect hi h).frame
  exact htrace

/-- R311: a register access that changes INPUT_BUFFER is the write to it. -/
theorem AccessEffect.inputBuffer_of_ne {i : Instr} {s t : State} (h : AccessEffect i s t)
    (hne : t.inputBuffer ≠ s.inputBuffer) : ∃ v, i = .wrInputBuffer v := by
  cases h with
  | inputBuffer hi => exact ⟨_, hi⟩
  | staged _ ht => rw [ht] at hne; exact absurd rfl hne
  | _ => exact absurd rfl hne

/-- R311: of the commands other than CONFIGURE, those that shift in can change INPUT_BUFFER. -/
theorem commandWork_inputBuffer_of_ne {c : Instr} {s : State} (hne : (commandWork c s).inputBuffer ≠ s.inputBuffer) :
    c = .read ∨ c = .readWrite ∨ (c = .transfer ∧ s.mode ≠ .writeOnly) := by
  cases c with
  | read => exact .inl rfl
  | readWrite => exact .inr (.inl rfl)
  | transfer =>
    refine .inr (.inr ⟨rfl, fun hm => hne ?_⟩)
    simp [commandWork, afterCommand, afterTransfer_writeOnly hm]
  | _ => exact absurd rfl hne

/-- Settles O42, by what each effect of an instruction does to INPUT_BUFFER. -/
theorem inputBufferWriters : Obligations.InputBufferWriters := by
  intro i s t h hne
  cases exec_effect h with
  | accessed _ ht => exact .inl (ht.inputBuffer_of_ne hne)
  | failed => exact absurd rfl hne
  | @ran c hruns =>
    refine .inr ⟨c, hruns, ?_⟩
    obtain hc | hc | hc := commandWork_inputBuffer_of_ne hne <;> simp [hc]
  | constructed hruns => exact .inr ⟨.configure, hruns, .inr (.inr (.inl rfl))⟩

/-! ### What a command issues -/

/-- A command other than CONFIGURE that completes while CONFIGURED issues its trace. -/
theorem command_issued {c : Instr} (hc : isTransferOrPulse c = true) {s t : State} (hs : s.configured = true)
    (h : exec c s = .next t) : issued s t = commandTrace c s := by
  apply issued_eq
  rw [command_ran hc hs h, State.setErr_trace, commandWork_trace]

/-- A command other than CONFIGURE that ends with code 0 was issued while CONFIGURED. -/
theorem configured_of_command_ok {c : Instr} (hc : isTransferOrPulse c = true) {s t : State}
    (h : exec c s = .next t) (hok : t.errCode = .ok) : s.configured = true := by
  rw [exec_command hc] at h
  obtain ⟨-, rfl⟩ | ⟨hs, -⟩ := runConfigured_inv h
  · cases hok
  · exact hs

/-- A CONFIGURE that ends with code 0 did its work. -/
theorem configure_ran {s t : State} (h : exec .configure s = .next t) (hok : t.errCode = .ok) :
    t = (construct s).setErr .ok := by
  obtain ⟨-, rfl⟩ | ⟨-, -, rfl⟩ | ⟨-, -, ht, -⟩ := runConfigure_inv h
  · cases hok
  · cases hok
  · exact ht

/-- A CONFIGURE that ends with code 0 issues the set-up and the transfer MODE selects (R200). -/
theorem configure_issued {s t : State} (h : exec .configure s = .next t) (hok : t.errCode = .ok) :
    issued s t = setUpTrace s ++ transferTrace s (answers s) := by
  apply issued_eq
  rw [configure_ran h hok]
  exact construct_trace s

/-! ### How many events a command issues -/

theorem wiredEvent_length_le (p : PinId) (e : Event) : (wiredEvent p e).length ≤ 1 := by
  unfold wiredEvent; split <;> simp

/-- R321: the set-up of CONFIGURE is at most 7 events, one for each step of it. -/
theorem setUpTrace_length_le (s : State) : (setUpTrace s).length ≤ 7 := by
  have h (p : PinId) (e : Event) := wiredEvent_length_le p e
  have hclk := Nat.add_le_add (h s.clockPin (.setDir s.clockPin .output)) (h s.clockPin (.drive s.clockPin false))
  have hdout := Nat.add_le_add (h s.dataOutPin (.setDir s.dataOutPin .output))
    (h s.dataOutPin (.drive s.dataOutPin false))
  have hlat := Nat.add_le_add (h s.latchPin (.setDir s.latchPin .output)) (h s.latchPin (.drive s.latchPin false))
  have hdin := h s.dataInPin (.setDir s.dataInPin .input)
  simp only [setUpTrace, List.length_append]
  omega

theorem outLatched_length (bit : Nat → Level) (s : State) :
    (outTrace bit s ++ lpTrace s).length = 5 * bitWidth s + 3 := by
  simp [lpTrace]

theorem readTrace_length {s : State} {ss : List Level} (hss : ss.length = bitWidth s) :
    (readTrace s ss).length = 5 * bitWidth s + 2 := by
  simp [readTrace, hss]

/-- R262: a command that raises an error issues no event. -/
theorem issued_of_error {i : Instr} {s t : State} (hi : isCommand i = true) (h : exec i s = .next t)
    (herr : t.errCode ≠ .ok) : issued s t = [] := by
  rw [errorsArePrecise i s t hi h herr]
  exact issued_eq (List.append_nil _).symm

/-- Settles O49: a command that ends with code 0 issues its trace, whose length follows from those of its loops. -/
theorem eventCounts : Obligations.EventCounts := by
  intro i s t hi h
  refine ⟨fun herr => by simp [issued_of_error hi h herr], fun hok => ?_⟩
  have hissued (hc : isTransferOrPulse i = true) : issued s t = commandTrace i s :=
    command_issued hc (configured_of_command_ok hc h hok) h
  refine ⟨?_, ?_, ?_, ?_, ?_, ?_⟩
  · rintro rfl
    exact congrArg List.length (hissued rfl)
  · rintro rfl
    exact congrArg List.length (hissued rfl)
  · rintro (rfl | ⟨arg, rfl⟩) <;> rw [hissued rfl] <;> exact outLatched_length _ s
  · rintro rfl
    rw [hissued rfl]
    exact readTrace_length (answers_length s)
  · rintro rfl
    rw [hissued rfl]
    exact hybridTrace_length (answers_length s)
  · rintro rfl
    rw [configure_issued h hok]
    exact ⟨_, setUpTrace_length_le s, List.length_append⟩

/-! ### The sum of a trace's holds -/

@[simp] theorem holdSum_append (as bs : List Event) : holdSum (as ++ bs) = holdSum as + holdSum bs := by
  simp [holdSum]

theorem holdSum_flatMap {α : Type} {f : α → List Event} {n : Nat} (hf : ∀ x, holdSum (f x) = n) (xs : List α) :
    holdSum (xs.flatMap f) = xs.length * n := by
  induction xs with
  | nil => simp [holdSum]
  | cons x xs ih =>
    rw [List.flatMap_cons, holdSum_append, hf, ih, List.length_cons]
    ring

@[simp] theorem holdSum_nil : holdSum [] = 0 := rfl

@[simp] theorem holdSum_drive_cons (p : PinId) (l : Level) (es : List Event) :
    holdSum (.drive p l :: es) = holdSum es := by
  simp [holdSum]

@[simp] theorem holdSum_sample_cons (p : PinId) (l : Level) (es : List Event) :
    holdSum (.sample p l :: es) = holdSum es := by
  simp [holdSum]

/-- R320: a clock pulse holds twice. -/
@[simp] theorem holdSum_cpTrace (s : State) : holdSum (cpTrace s) = 2 * s.clockEdgeDelay.toNat := by
  simp [holdSum, cpTrace, two_mul]

@[simp] theorem holdSum_lpTrace (s : State) : holdSum (lpTrace s) = s.latchPulseDelay.toNat := by
  simp [holdSum, lpTrace]

/-- R120: each bit position of a serial-out is a clock pulse's holds. -/
@[simp] theorem holdSum_outTrace (bit : Nat → Level) (s : State) :
    holdSum (outTrace bit s) = 2 * bitWidth s * s.clockEdgeDelay.toNat := by
  rw [outTrace, holdSum_flatMap (n := 2 * s.clockEdgeDelay.toNat) (by simp), List.length_reverse, List.length_range]
  ring

/-- R140: each bit position of a serial-in is a clock pulse's holds. -/
@[simp] theorem holdSum_inTrace_answers (s : State) :
    holdSum (inTrace s (answers s)) = 2 * bitWidth s * s.clockEdgeDelay.toNat := by
  rw [inTrace, holdSum_flatMap (n := 2 * s.clockEdgeDelay.toNat) (by simp), answers_length]
  ring

theorem holdSum_outLatched (bit : Nat → Level) (s : State) :
    holdSum (outTrace bit s ++ lpTrace s) = 2 * bitWidth s * s.clockEdgeDelay.toNat + s.latchPulseDelay.toNat := by
  simp

theorem holdSum_readTrace (s : State) :
    holdSum (readTrace s (answers s)) = 2 * bitWidth s * s.clockEdgeDelay.toNat := by
  simp [readTrace]

theorem holdSum_hybridTrace (s : State) :
    holdSum (hybridTrace s (answers s)) = 4 * bitWidth s * s.clockEdgeDelay.toNat := by
  rw [hybridTrace, holdSum_append, holdSum_outTrace, holdSum_readTrace]
  ring

theorem holdSum_transferTrace (s : State) : holdSum (transferTrace s (answers s)) = selectedHolds s := by
  unfold transferTrace selectedHolds
  cases s.mode
  · exact holdSum_outLatched _ s
  · exact holdSum_readTrace s
  · exact holdSum_hybridTrace s

theorem holdSum_wiredEvent {e : Event} (he : holdSum [e] = 0) (p : PinId) : holdSum (wiredEvent p e) = 0 := by
  unfold wiredEvent
  split
  · rfl
  · exact he

/-- R200: CONFIGURE's set-up holds nothing. -/
theorem holdSum_setUpTrace (s : State) : holdSum (setUpTrace s) = 0 := by
  have hdir (p : PinId) (d : PinDir) : holdSum (wiredEvent p (.setDir p d)) = 0 := holdSum_wiredEvent rfl p
  have hlow (p : PinId) : holdSum (wiredEvent p (.drive p false)) = 0 := holdSum_wiredEvent rfl p
  simp [setUpTrace, hdir, hlow]

/-- Settles O48: each command issues its trace, and the holds of a trace are those of its clock pulses and of its latch
pulse. -/
theorem holdSums : Obligations.HoldSums := by
  intro s t
  refine ⟨fun hs => ?_, fun h hok => ?_⟩
  · have hsum {c : Instr} (hc : isTransferOrPulse c = true) (h : exec c s = .next t) :
        holdSum (issued s t) = holdSum (commandTrace c s) := congrArg holdSum (command_issued hc hs h)
    exact ⟨fun h => (hsum rfl h).trans (holdSum_cpTrace s), fun h => (hsum rfl h).trans (holdSum_lpTrace s),
      fun h => (hsum rfl h).trans (holdSum_outLatched _ s), fun _ h => (hsum rfl h).trans (holdSum_outLatched _ s),
      fun h => (hsum rfl h).trans (holdSum_readTrace s), fun h => (hsum rfl h).trans (holdSum_hybridTrace s),
      fun h => (hsum rfl h).trans (holdSum_transferTrace s)⟩
  · rw [configure_issued h hok, holdSum_append, holdSum_setUpTrace, holdSum_transferTrace, Nat.zero_add]

/-! ### The state a successful CONFIGURE leaves -/

theorem construct_inputBuffer_writeOnly {s : State} (hm : s.mode = .writeOnly) :
    (construct s).inputBuffer = 0#32 := by
  rw [construct_eq, State.emit_inputBuffer, afterTransfer_writeOnly (by exact hm)]

theorem construct_inputBuffer_reading {s : State} (hm : s.mode ≠ .writeOnly) :
    (construct s).inputBuffer = captureSum (answers s) := by
  rw [construct_eq, State.emit_inputBuffer, afterTransfer_reading (by exact hm)]; rfl

/-- CONFIGURE's events set the directions its set-up sets. -/
theorem lineDir_configureTrace (p : PinId) (s : State) :
    lineDir p (configureTrace s) = lineDir p (setUpTrace s) := by
  rw [configureTrace, lineDir_append, (quiet_commandTrace .transfer s).dir p, Option.none_or]

theorem mem_wiredEvent {p : PinId} (hp : p ≠ 0#8) (e : Event) : e ∈ wiredEvent p e := by
  have hnat : p.toNat ≠ 0 := fun h => hp (BitVec.eq_of_toNat_eq h)
  simp [wiredEvent, hnat]

/-- R200: the set-up drives each wired output line low. -/
theorem drive_mem_setUpTrace {p : PinId} (hp : p ≠ 0#8) {s : State}
    (hrole : p = s.clockPin ∨ p = s.dataOutPin ∨ p = s.latchPin) : Event.drive p false ∈ setUpTrace s := by
  obtain rfl | rfl | rfl := hrole <;> simp [setUpTrace, mem_wiredEvent hp]

/-- R200: the set-up leaves each wired output line low. -/
theorem lineLevel_setUpTrace_output {p : PinId} (hp : p ≠ 0#8) {s : State}
    (hrole : p = s.clockPin ∨ p = s.dataOutPin ∨ p = s.latchPin) : lineLevel p (setUpTrace s) = some false :=
  lineLevel_low_of_driven (lineLevel_setUpTrace p s) (drive_mem_setUpTrace hp hrole)

/-- A wired output line that the transfer does not leave high is left low by CONFIGURE. -/
theorem lineLevel_configureTrace_low {p : PinId} (hp : p ≠ 0#8) {s : State}
    (hrole : p = s.clockPin ∨ p = s.dataOutPin ∨ p = s.latchPin)
    (hlow : lineLevel p (commandTrace .transfer s) ≠ some true) : lineLevel p (configureTrace s) = some false :=
  lineLevel_low_of_driven (lineLevel_append_low (lineLevel_setUpTrace p s) hlow)
    (List.mem_append_left _ (drive_mem_setUpTrace hp hrole))

theorem bitWidth_pos_iff (s : State) : 0 < bitWidth s ↔ s.widthBytes ≠ 0#8 := by
  simp [bitWidth, Nat.pos_iff_ne_zero, BitVec.toNat_eq]

theorem outTrace_width_zero {s : State} (hw : s.widthBytes = 0#8) (bit : Nat → Level) : outTrace bit s = [] := by
  simp [outTrace, bitWidth, hw]

/-- The serial-out of a transfer leaves data-out, on a pin of its own, at its bit 0, or undriven at width 0. -/
theorem lineLevel_dataOut_outTrace_width {s : State} (hclk : s.dataOutPin ≠ s.clockPin) (bit : Nat → Level) :
    lineLevel s.dataOutPin (outTrace bit s) =
      if s.widthBytes = 0#8 then none else some (bit 0 ^^ s.invertOutput) := by
  split_ifs with hw
  · rw [outTrace_width_zero hw]; rfl
  · exact lineLevel_dataOut_outTrace bit ((bitWidth_pos_iff s).mpr hw) hclk

/-- R302: the transfer MODE selects leaves data-out at OUTPUT_BUFFER's bit 0 if it writes a bit, and does not drive it
otherwise. -/
theorem lineLevel_dataOut_transferTrace {s : State} (hclk : s.dataOutPin ≠ s.clockPin)
    (hlat : s.dataOutPin ≠ s.latchPin) (ss : List Level) :
    lineLevel s.dataOutPin (transferTrace s ss) =
      if s.mode ≠ .readOnly ∧ s.widthBytes ≠ 0#8 then some (s.outputBuffer.getLsbD 0 ^^ s.invertOutput)
      else none := by
  cases hm : s.mode with
  | writeOnly =>
    simp [transferTrace, hm, writeTrace, lineLevel_append, lineLevel_dataOut_lpTrace hlat,
      lineLevel_dataOut_outTrace_width hclk]
  | readOnly => simp [transferTrace, hm, lineLevel_dataOut_readTrace hclk hlat]
  | readWrite =>
    simp [transferTrace, hm, hybridTrace, lineLevel_append, lineLevel_dataOut_readTrace hclk hlat,
      lineLevel_dataOut_outTrace_width hclk]

/-- R302: CONFIGURE leaves data-out, wired and on a pin of its own, at OUTPUT_BUFFER's bit 0 if MODE writes a bit, and
low otherwise. -/
theorem lineLevel_dataOut_configureTrace {s : State} (hp : s.dataOutPin ≠ 0#8) (hclk : s.dataOutPin ≠ s.clockPin)
    (hlat : s.dataOutPin ≠ s.latchPin) :
    lineLevel s.dataOutPin (configureTrace s) =
      some (if s.mode ≠ .readOnly ∧ s.widthBytes ≠ 0#8 then s.outputBuffer.getLsbD 0 ^^ s.invertOutput
            else false) := by
  have htransfer := lineLevel_dataOut_transferTrace hclk hlat (answers s)
  have hsetUp := lineLevel_setUpTrace_output hp (s := s) (.inr (.inl rfl))
  have htrace : configureTrace s = setUpTrace s ++ transferTrace s (answers s) := rfl
  rw [htrace, lineLevel_append, htransfer, hsetUp]
  split_ifs <;> rfl

/-- Settles O46: CONFIGURE keeps the staged registers, and each wired line's direction is the set-up's and its level the
last that the set-up or the transfer drives. -/
theorem afterConfigure : Obligations.AfterConfigure := by
  intro s t hs htrace h hok hci hco hcl hio hil hol
  obtain rfl := configure_ran h hok
  obtain ⟨hmode, hwidth, hclk, hdin, hdout, hlat⟩ := construct_sameLocked s .ok
  obtain ⟨hout, hce, hlp, hinv⟩ := command_keeps_host rfl h
  have ht : ((construct s).setErr .ok).trace = configureTrace s := by
    rw [State.setErr_trace, construct_trace, htrace, List.nil_append]
  have hstatus : statusWord ((construct s).setErr .ok) = 0x00000001#32 := by
    simp [statusWord, construct_configured, errBits]
  have hq := quiet_commandTrace .transfer s
  simp only [ht, lineDir_configureTrace]
  refine ⟨hstatus, hmode, hwidth, hclk, hdin, hdout, hlat, hout, hinv, hce, hlp, construct_inputBuffer_writeOnly,
    construct_inputBuffer_reading, fun hp => ⟨?_, ?_⟩, fun hp => ⟨?_, ?_⟩, fun hp => ⟨?_, ?_⟩, fun hp => ?_⟩
  · simp [lineDir_setUpTrace hp, Ne.symm (mt hci hp)]
  · exact lineLevel_configureTrace_low hp (.inl rfl) hq.clock
  · simp [lineDir_setUpTrace hp]
  · exact lineLevel_configureTrace_low hp (.inr (.inr rfl)) hq.latch
  · simp [lineDir_setUpTrace hp]
  · exact lineLevel_dataOut_configureTrace hp (fun hd => hp (hd.trans (hco hd.symm))) (mt hol hp)
  · have hno : s.dataOutPin ≠ s.dataInPin := fun hd => hp (hio hd.symm)
    have hnl : s.latchPin ≠ s.dataInPin := fun hd => hp (hil hd.symm)
    simp [lineDir_setUpTrace hp, hno, hnl]

end Sys2Proof.Machine
